-- ==== Sys2Proof/Word.lean ====
section
/-! DEFINITION. The two widths of the machine (00_scope.md R6, R8): bytes and 16-bit words. -/

namespace Sys2Proof

/-- A u8 (R8): register contents, memory bytes, flags. -/
abbrev Byte := BitVec 8

/-- A u16 (R8): addresses, ports, register pairs, index registers. -/
abbrev Word := BitVec 16

end Sys2Proof
end

