-- ==== Sys2Proof/Machine/Bits.lean ====
section
/-! DEFINITION. Bit fields, concatenation and sign extension (00_scope.md R8, R10). -/

namespace Sys2Proof.Machine

/-- `v[15:8]` (R8). -/
def hiByte (v : Word) : Byte := v.extractLsb' 8 8

/-- `v[7:0]` (R8). -/
def loByte (v : Word) : Byte := v.extractLsb' 0 8

/-- `hi:lo`, that is `hi * 256 + lo` (R8): "pair = high<<8 | low". -/
def pair (hi lo : Byte) : Word := hi ++ lo

/-- `sext_16(d)` (R8). -/
def sext16 (d : Byte) : Word := d.signExtend 16

/-- `zext_16(v)` (R8). -/
def zext16 (v : Byte) : Word := v.setWidth 16

/-- A flag or carry as a byte, 0 or 1. -/
def bitByte (b : Bool) : Byte := if b then 1#8 else 0#8

/-- The number of set bits. -/
def setBits (v : Byte) : Nat :=
  (v.getLsbD 0).toNat + (v.getLsbD 1).toNat + (v.getLsbD 2).toNat + (v.getLsbD 3).toNat
    + (v.getLsbD 4).toNat + (v.getLsbD 5).toNat + (v.getLsbD 6).toNat + (v.getLsbD 7).toNat

/-- `parity(v)` (R10): "true = even". -/
def parity (v : Byte) : Bool := setBits v % 2 == 0

/-- The refresh count (10_state.md R112): bits 6:0 count modulo 128, bit 7 stays. -/
def refresh (r : Byte) : Byte := (r &&& 0x80#8) ||| ((r + 1#8) &&& 0x7F#8)

end Sys2Proof.Machine
end

