-- ==== Sys2Proof/Config.lean ====
section
/-! DEFINITION. The parameters a model takes as arguments (00_scope.md R7) and the free values the spec calls draws
(R7, R9). The parameters are plain data carried by State (log 4); the free values have no body (log 5, log 7, log 10). -/

namespace Sys2Proof

/-- `CPU_VARIANT` (R2, R7): the NMOS or the CMOS part; it selects only the byte of `OUT (C),0`. -/
inductive CpuVariant where
  | nmos
  | cmos
deriving DecidableEq, Repr

/-- `UNDOC_POLICY` (R7, R326): undocumented encodings execute their rule, or raise UnknownOpcode. -/
inductive UndocPolicy where
  | execute
  | fault
deriving DecidableEq, Repr

/-- The parameters of R7 besides `ADDRESS_MAP` and `ROM_IMAGE` (those are the Address Space, Machine/Bus.lean).
`outC0` is `OUT_C0_VALUE` where the machine's builder sets it; `none` leaves R7's default by variant. -/
structure Params where
  cpuVariant : CpuVariant
  undocPolicy : UndocPolicy
  outC0 : Option Byte
deriving DecidableEq, Repr

/-- The defaults of R7. -/
def Params.standard : Params where
  cpuVariant := .nmos
  undocPolicy := .execute
  outC0 := none

/-- What the host gives one step (60_exceptions.md R911). -/
structure HostInput where
  nmiEdge : Bool
  intLine : Bool
  busByte : Byte
deriving DecidableEq, Repr

/-- A step with no interrupt request; the bus byte is then never read (R911). -/
def HostInput.idle : HostInput where
  nmiEdge := false
  intLine := false
  busByte := 0xFF#8

/-- One entry of a step's ordered event list (30_encoding.md R300; 49_io.md R850, R851). -/
inductive IoEvent where
  | input (port : Word) (value : Byte)
  | output (port : Word) (value : Byte)
deriving DecidableEq, Repr

namespace Config

/-- `draw1()` (R9): the n-th free bit of the run, under no law. -/
opaque draw1 : Nat → Bool

/-- `draw8()` (R9): the n-th free byte of the run, under no law. -/
opaque draw8 : Nat → Byte

/-- The byte an I/O read returns when the host's answers in State are used up (49_io.md R850). -/
opaque ioRead : Nat → Byte

/-- The byte of a ROM region at an address past a short image: a draw fixed for the whole run (20_memory.md R206). -/
opaque romTail : Nat → Byte

end Config

end Sys2Proof
end

