-- ==== Sys2Proof/Machine/Memory.lean ====
section
/-! DEFINITION. The bytes of the RAM components (20_memory.md R205) as a list of cells in one canonical form: addresses
strictly rising, no entry equal to what an unlisted address reads as (log 2). -/

namespace Sys2Proof.Machine

/-- The bytes listed, by rising address. -/
abbrev Memory := List Host.Cell

/-- What a RAM byte that nothing has written reads as. The spec makes it a draw (R205, D20). DESIGN CHOICE, unsafe, log 2. -/
def Memory.unlisted : Byte := 0x00#8

/-- The byte stored at an address. -/
def Memory.get : Memory → Nat → Byte
  | [], _ => Memory.unlisted
  | (k, v) :: rest, a => if a = k then v else Memory.get rest a

/-- The list with no entry for an address. -/
def Memory.without (m : Memory) (a : Nat) : Memory := m.filter fun cell => cell.1 != a

/-- An entry in its place by rising address. -/
def Memory.add : Memory → Nat → Byte → Memory
  | [], a, v => [(a, v)]
  | (k, w) :: rest, a, v => if a < k then (a, v) :: (k, w) :: rest else (k, w) :: Memory.add rest a v

/-- Store a byte, keeping the canonical form: a byte equal to what an unlisted address reads as is not listed. -/
def Memory.set (m : Memory) (a : Nat) (v : Byte) : Memory :=
  if v = Memory.unlisted then m.without a else (m.without a).add a v

/-- Every listed address lies above `a`. -/
def Memory.above (a : Nat) (m : Memory) : Bool := m.all fun cell => a < cell.1

/-- The canonical form. -/
def Memory.wf : Memory → Bool
  | [] => true
  | (k, v) :: rest => v != Memory.unlisted && Memory.above k rest && Memory.wf rest

end Sys2Proof.Machine
end

