-- ==== Sys2Proof/Machine/Bus.lean ====
section
/-! DEFINITION. The Address Space and its Memory Regions (20_memory.md R201 to R214): which component an address routes to,
what a region accepts, and the host's attach and detach at construction time. -/

namespace Sys2Proof.Machine

/-- RAM is mutable, ROM the "read-only variant" (R205, R206). A memory-mapped peripheral is attached as RAM (R212, log 14). -/
inductive RegionKind where
  | ram
  | rom
deriving DecidableEq, Repr

/-- A component: kind, base address, size and, for ROM, the image loaded into it (R205, R206; `ROM_IMAGE` of R7). -/
structure Component where
  kind : RegionKind
  base : Nat
  size : Nat
  image : List Byte
deriving DecidableEq, Repr

/-- The attached components (`ADDRESS_MAP` of R7). A slot is bound to the component whose slot range holds it (R201, R202, log 19). -/
structure AddressSpace where
  components : List Component
deriving DecidableEq, Repr

/-- Why attach or detach fails: a failure of machine construction, never of a step (R202 to R204, 60_exceptions.md R904). -/
inductive BusError where
  /-- DuplicateBinding: the component being attached and a slot of its range that is already bound (R900, log 23). -/
  | duplicateBinding (component : Component) (slot : Nat)
  /-- A component with size < 1 or past 0xFFFF (D11). -/
  | badComponent (component : Component)
  /-- Detaching a component that is not attached (D11). -/
  | notAttached (component : Component)
deriving DecidableEq, Repr

/-- The fault kinds (60_exceptions.md R900). -/
inductive FaultKind where
  | addressOutOfRange
  | readOnlyViolation
  | unknownOpcode
  | duplicateBinding
  /-- Unreachable (R905): no step and no construction raises it. -/
  | unsupportedAddressingMode
deriving DecidableEq, Repr

/-- The `code` column of R900. -/
def FaultKind.code : FaultKind → Nat
  | .addressOutOfRange => 1
  | .readOnlyViolation => 2
  | .unknownOpcode => 3
  | .duplicateBinding => 4
  | .unsupportedAddressingMode => 5

/-- The fault kind of a construction failure: the two configuration errors of D11 are none of R900's. -/
def BusError.kind : BusError → Option FaultKind
  | .duplicateBinding .. => some .duplicateBinding
  | .badComponent _ => none
  | .notAttached _ => none

/-- Why a memory access fails, before the step says what state it leaves (R207 to R211). -/
inductive AccessError where
  /-- AddressOutOfRange: the address and, when a region rejected it, the region's base and size (R207, 60_exceptions.md R900). -/
  | outOfRange (addr : Word) (bounds : Option (Nat × Nat))
  /-- ReadOnlyViolation: the address (R208). -/
  | readOnly (addr : Word)
deriving DecidableEq, Repr

/-- `slot(addr) = addr[15:12]` (R201). -/
def slotOf (a : Word) : Nat := a.toNat / 0x1000

/-- `base >> 12` (R202). -/
def Component.firstSlot (c : Component) : Nat := c.base / 0x1000

/-- `(base+size-1) >> 12` (R202). -/
def Component.lastSlot (c : Component) : Nat := (c.base + c.size - 1) / 0x1000

/-- The component's inclusive slot range holds slot `i` (R202). -/
def Component.bindsSlot (c : Component) (i : Nat) : Bool := c.firstSlot ≤ i && i ≤ c.lastSlot

/-- What attach accepts (R202, D11). -/
def Component.valid (c : Component) : Bool := 1 ≤ c.size && c.base + c.size ≤ 0x10000

/-- `0 <= address-base < size` (R207). -/
def Component.contains (c : Component) (a : Word) : Bool := c.base ≤ a.toNat && a.toNat - c.base < c.size

/-- How many bytes of the image the loader reads: it "returns the count actually read" (R206). -/
def Component.loaded (c : Component) : Nat := min c.image.length c.size

/-- The byte of a ROM region: the image's, or past a short image a draw fixed for the run (R206, log 10). -/
def Component.romByte (c : Component) (a : Word) : Byte :=
  c.image.getD (a.toNat - c.base) (Config.romTail a.toNat)

/-- Region read: the bounds check, then the byte (R207). -/
def Component.read (c : Component) (mem : Memory) (a : Word) : Except AccessError Byte :=
  if c.contains a then
    match c.kind with
    | .ram => .ok (mem.get a.toNat)
    | .rom => .ok (c.romByte a)
  else .error (.outOfRange a (some (c.base, c.size)))

/-- Region write: the bounds check first, then the read-only check (R208, 60_exceptions.md R902, R908). -/
def Component.write (c : Component) (mem : Memory) (a : Word) (v : Byte) : Except AccessError Memory :=
  if c.contains a then
    match c.kind with
    | .ram => .ok (mem.set a.toNat v)
    | .rom => .error (.readOnly a)
  else .error (.outOfRange a (some (c.base, c.size)))

namespace AddressSpace

/-- No component attached. -/
def empty : AddressSpace := ⟨[]⟩

/-- The component a slot is bound to (R201). -/
def boundTo (bus : AddressSpace) (slot : Nat) : Option Component :=
  bus.components.find? fun c => c.bindsSlot slot

/-- Bus read: dispatch by slot; an unbound slot is AddressOutOfRange (R209). -/
def read (bus : AddressSpace) (mem : Memory) (a : Word) : Except AccessError Byte :=
  match bus.boundTo (slotOf a) with
  | some c => c.read mem a
  | none => .error (.outOfRange a none)

/-- Bus write: dispatch by slot; an unbound slot is AddressOutOfRange (R210). -/
def write (bus : AddressSpace) (mem : Memory) (a : Word) (v : Byte) : Except AccessError Memory :=
  match bus.boundTo (slotOf a) with
  | some c => c.write mem a v
  | none => .error (.outOfRange a none)

/-- The address lies in the range of the RAM component bound to its slot. -/
def isRam (bus : AddressSpace) (a : Word) : Bool :=
  match bus.boundTo (slotOf a) with
  | some c => c.contains a && c.kind == .ram
  | none => false

/-- `attach(component)` (R202): the check is made for every slot of the range before any slot is bound. The order of the two checks, the
component that DuplicateBinding names (the new one) and the slot it names (the lowest bound one of the range) are DESIGN CHOICE,
log 23. -/
def attach (bus : AddressSpace) (c : Component) : Except BusError AddressSpace :=
  if c.valid then
    match (List.range 16).find? fun slot => c.bindsSlot slot && (bus.boundTo slot).isSome with
    | some slot => .error (.duplicateBinding c slot)
    | none => .ok ⟨bus.components ++ [c]⟩
  else .error (.badComponent c)

/-- `detach(component)` "clears its slots" (R203). -/
def detach (bus : AddressSpace) (c : Component) : Except BusError AddressSpace :=
  if c ∈ bus.components then .ok ⟨bus.components.erase c⟩ else .error (.notAttached c)

/-- Machine construction: attach the components of the address map in order (R213, 60_exceptions.md R904). -/
def build (map : List Component) : Except BusError AddressSpace :=
  map.foldlM attach empty

/-- The smallest base of any attached component; `none` is the sentinel NONE (R204, D12). -/
def lowestBase (bus : AddressSpace) : Option Nat :=
  bus.components.foldl (fun low c => some (match low with | some b => min b c.base | none => c.base)) none

/-- "total size equals sum of attached component sizes" (R204). -/
def totalSize (bus : AddressSpace) : Nat := (bus.components.map Component.size).sum

/-- Valid components in disjoint slot ranges: what attach keeps (R202). -/
abbrev wf (bus : AddressSpace) : Prop :=
  (∀ c ∈ bus.components, c.valid = true) ∧
    bus.components.Pairwise fun c d => c.lastSlot < d.firstSlot ∨ d.lastSlot < c.firstSlot

/-- One RAM component over the whole 64 KB: the map of the spec's vectors (95_test_vectors.md), State.reset's (log 3). -/
def fullRam : AddressSpace := ⟨[{ kind := .ram, base := 0, size := 0x10000, image := [] }]⟩

end AddressSpace

end Sys2Proof.Machine
end

