-- ==== Sys2Proof/Machine/State.lean ====
section
/-! DEFINITION. The state record (10_state.md R100 to R120), the reasons a step stops, and the state after reset. Every field is
plain data. INVENTORY.md, section State, lists every field with its rule and reset value. -/

namespace Sys2Proof.Machine

/-- IM, the interrupt mode: only 0, 1 and 2 exist (R111). -/
inductive InterruptMode where
  | im0
  | im1
  | im2
deriving DecidableEq, Repr

/-- `int_block` (R116): which interrupts the next sampling point does not accept. -/
inductive IntBlock where
  | none
  | intOnly
  | all
deriving DecidableEq, Repr

/-- The machine's state. -/
structure State where
  /-- Main registers (R101). -/
  a : Byte
  f : Byte
  b : Byte
  c : Byte
  d : Byte
  e : Byte
  h : Byte
  l : Byte
  /-- Alternate registers A' to L' (R103). -/
  altA : Byte
  altF : Byte
  altB : Byte
  altC : Byte
  altD : Byte
  altE : Byte
  altH : Byte
  altL : Byte
  /-- Index registers (R105). -/
  ix : Word
  iy : Word
  /-- Stack pointer (R106). -/
  sp : Word
  /-- Program counter (R107). -/
  pc : Word
  /-- Interrupt vector register (R111). -/
  i : Byte
  /-- Refresh register (R111, R112). -/
  r : Byte
  /-- Interrupt enables (R111). -/
  iff1 : Bool
  iff2 : Bool
  /-- Interrupt mode (R111). -/
  im : InterruptMode
  /-- Set by HALT (R115). -/
  halted : Bool
  /-- R116. -/
  intBlock : IntBlock
  /-- The NMI latch (R117). -/
  nmiPending : Bool
  /-- The opcode latch (R118). -/
  latch : Byte
  /-- The latest step was LD A,I or LD A,R (R119). -/
  ldAir : Bool
  /-- The bytes of the RAM components (R100, 20_memory.md R205). -/
  mem : Memory
  /-- Configuration: the Address Space (20_memory.md R201, R213), log 4. -/
  bus : AddressSpace
  /-- Configuration: the other parameters (00_scope.md R7), log 4. -/
  params : Params
  /-- Model: the host's inputs of the steps to come, oldest first (60_exceptions.md R911), log 6. -/
  inputs : List HostInput
  /-- Model: the host's answers to the I/O reads to come, oldest first (49_io.md R850), log 7. -/
  ioAnswers : List Byte
  /-- Model: how many free values the run has taken (00_scope.md R9), log 5. -/
  draws : Nat
  /-- Model: the cycle count the latest step returned (70_reset_and_hazards.md R970), log 8. -/
  cycles : Nat
  /-- Model: the I/O events of the latest step, in order (30_encoding.md R300), log 8. -/
  events : List IoEvent
deriving DecidableEq, Repr

/-- The faults of a step (60_exceptions.md R900). Each carries, last, the state it leaves: the state the step has reached just
before the failing access (R907, log 9). A fault is terminal; a claim about a run that continues is not affected: safe. -/
inductive Fault where
  /-- R901: raised by any memory access (fetch, look-ahead, data, stack, vector) to an unbound slot or outside the bound
  component; `bounds` is the region's base and size where a region rejected it. Safe: the spec names it. -/
  | addressOutOfRange (addr : Word) (bounds : Option (Nat × Nat)) (left : State)
  /-- R902: raised by a memory write that reaches a ROM region. Safe: the spec names it. -/
  | readOnlyViolation (addr : Word) (left : State)
  /-- R903: raised by the fetch of an undocumented encoding when UNDOC_POLICY is fault. Safe: the spec names it. -/
  | unknownOpcode (bytes : List Byte) (left : State)
deriving DecidableEq, Repr

/-- The reasons a step is refused. -/
inductive Refusal where
  /-- An instruction that has no meaning yet, by its table mnemonic; raised by exec's arms only. Safe. -/
  | notModelled (mnemonic : String)
  /-- R914, U16: INT acceptance in mode 0 with a bus byte that is no restart; "the model refuses the step". Safe. -/
  | im0BusByte (busByte : Byte)
deriving DecidableEq, Repr

/-- The machine right after reset (70_reset_and_hazards.md R952). A, F, B to L, the alternates, IX, IY, SP and the latch have no
reset value in the spec: zero is a DESIGN CHOICE, unsafe, log 1. Memory lists nothing (log 2); the bus is one RAM component
(log 3); the model's own fields are empty (log 5 to log 8). -/
def State.reset : State where
  a := 0x00#8
  f := 0x00#8
  b := 0x00#8
  c := 0x00#8
  d := 0x00#8
  e := 0x00#8
  h := 0x00#8
  l := 0x00#8
  altA := 0x00#8
  altF := 0x00#8
  altB := 0x00#8
  altC := 0x00#8
  altD := 0x00#8
  altE := 0x00#8
  altH := 0x00#8
  altL := 0x00#8
  ix := 0x0000#16
  iy := 0x0000#16
  sp := 0x0000#16
  pc := 0x0000#16
  i := 0x00#8
  r := 0x00#8
  iff1 := false
  iff2 := false
  im := .im0
  halted := false
  intBlock := .none
  nmiPending := false
  latch := 0x00#8
  ldAir := false
  mem := []
  bus := AddressSpace.fullRam
  params := Params.standard
  inputs := []
  ioAnswers := []
  draws := 0
  cycles := 0
  events := []

end Sys2Proof.Machine
end

