-- ==== Sys2Proof/Machine/Flags.lean ====
section
/-! DEFINITION. The flag register's fields (10_state.md R108) and every flag computation: the shared 8-bit primitives
(43_alu8.md R550 to R556), the 16-bit ones (45_alu16.md R650 to R652), DAA, the rotates (46_rotate_shift.md R704) and the bit test
(47_bit.md R760). Operands are taken to integers, the result is exact, and it is narrowed at the end. -/

namespace Sys2Proof.Machine

/-- The fields of F, bit 7 down to bit 0 (R108). -/
structure Flags where
  s : Bool
  z : Bool
  f5 : Bool
  h : Bool
  f3 : Bool
  pv : Bool
  n : Bool
  c : Bool
deriving DecidableEq, Repr

/-- Read the fields of F (R108). -/
def Flags.ofByte (f : Byte) : Flags where
  s := f.getLsbD 7
  z := f.getLsbD 6
  f5 := f.getLsbD 5
  h := f.getLsbD 4
  f3 := f.getLsbD 3
  pv := f.getLsbD 2
  n := f.getLsbD 1
  c := f.getLsbD 0

/-- Write the fields of F (R108). -/
def Flags.toByte (fl : Flags) : Byte :=
  BitVec.ofNat 8 (128 * fl.s.toNat + 64 * fl.z.toNat + 32 * fl.f5.toNat + 16 * fl.h.toNat
    + 8 * fl.f3.toNat + 4 * fl.pv.toNat + 2 * fl.n.toNat + fl.c.toNat)

/-- The flags of a state. -/
def State.flags (s : State) : Flags := Flags.ofByte s.f

/-- Write F from its fields. -/
def State.setFlags (s : State) (fl : Flags) : State := { s with f := fl.toByte }

/-- `sz53(v)` (00_scope.md R10). -/
def sz53 (v : Byte) (fl : Flags) : Flags :=
  { fl with s := v.getLsbD 7, z := v == 0#8, f5 := v.getLsbD 5, f3 := v.getLsbD 3 }

/-- `sz53p(v)` (R10). -/
def sz53p (v : Byte) (fl : Flags) : Flags := { sz53 v fl with pv := parity v }

/-- `sz53p(v); H <- 0; N <- 0`, the other flags kept: RLD, RRD, IN r,(C), IN F,(C). -/
def inputFlags (v : Byte) (fl : Flags) : Flags := { sz53p v fl with h := false, n := false }

/-! ## 8-bit arithmetic and logic -/

/-- `Add8(a, b, c)` (R550). -/
def add8 (a b : Byte) (c : Bool) : Byte × Flags :=
  let t := a.toNat + b.toNat + c.toNat
  let res := BitVec.ofNat 8 t
  (res,
    { s := res.getLsbD 7
      z := res == 0#8
      f5 := res.getLsbD 5
      h := decide (a.toNat % 16 + b.toNat % 16 + c.toNat > 15)
      f3 := res.getLsbD 3
      pv := (a.getLsbD 7 == b.getLsbD 7) && (res.getLsbD 7 != a.getLsbD 7)
      n := false
      c := decide (t > 255) })

/-- `Sub8(a, b, c)` (R551). -/
def sub8 (a b : Byte) (c : Bool) : Byte × Flags :=
  let t : Int := (a.toNat : Int) - b.toNat - c.toNat
  let res := BitVec.ofInt 8 t
  (res,
    { s := res.getLsbD 7
      z := res == 0#8
      f5 := res.getLsbD 5
      h := decide (((a.toNat % 16 : Nat) : Int) - (b.toNat % 16 : Nat) - c.toNat < 0)
      f3 := res.getLsbD 3
      pv := (a.getLsbD 7 != b.getLsbD 7) && (res.getLsbD 7 != a.getLsbD 7)
      n := true
      c := decide (t < 0) })

/-- The flags of `Logic8` (R553): H is 1 for AND alone. -/
def logicFlags (res : Byte) (isAnd : Bool) : Flags where
  s := res.getLsbD 7
  z := res == 0#8
  f5 := res.getLsbD 5
  h := isAnd
  f3 := res.getLsbD 3
  pv := parity res
  n := false
  c := false

/-- `Cp8(a, b)` (R554): Sub8's flags, with F5 and F3 from the operand b (90_conflicts.md C1). -/
def cp8 (a b : Byte) : Flags :=
  { (sub8 a b false).2 with f5 := b.getLsbD 5, f3 := b.getLsbD 3 }

/-- The eight accumulator operations (R310, R557). -/
inductive AluOp where
  | add
  | adc
  | sub
  | sbc
  | and
  | xor
  | or
  | cp
deriving DecidableEq, Repr

/-- The new A and the new flags of an accumulator operation (R560 to R567). -/
def alu (op : AluOp) (a v : Byte) (fl : Flags) : Byte × Flags :=
  match op with
  | .add => add8 a v false
  | .adc => add8 a v fl.c
  | .sub => sub8 a v false
  | .sbc => sub8 a v fl.c
  | .and => (a &&& v, logicFlags (a &&& v) true)
  | .xor => (a ^^^ v, logicFlags (a ^^^ v) false)
  | .or => (a ||| v, logicFlags (a ||| v) false)
  | .cp => (a, cp8 a v)

/-- `Inc8(v)` (R555); C unchanged. -/
def inc8 (v : Byte) (fl : Flags) : Byte × Flags :=
  let res := v + 1#8
  (res, { sz53 res fl with h := v.toNat % 16 == 15, pv := v == 0x7F#8, n := false })

/-- `Dec8(v)` (R556); C unchanged. -/
def dec8 (v : Byte) (fl : Flags) : Byte × Flags :=
  let res := v - 1#8
  (res, { sz53 res fl with h := v.toNat % 16 == 0, pv := v == 0x80#8, n := true })

/-- DAA (44_general_control.md R600). -/
def daa (a : Byte) (fl : Flags) : Byte × Flags :=
  let lo := a.toNat % 16
  let fixLo := fl.h || decide (lo > 9)
  let fixHi := fl.c || decide (a.toNat > 0x99)
  let corr : Byte := (if fixLo then 0x06#8 else 0#8) ||| (if fixHi then 0x60#8 else 0#8)
  let res := if fl.n then a - corr else a + corr
  let h := if fl.n then fl.h && decide (lo < 6) else decide (lo > 9)
  (res, { sz53p res fl with h := h, c := fixHi })

/-! ## 16-bit arithmetic -/

/-- `Add16(a, b)` (R650); S, Z, PV unchanged. -/
def add16 (a b : Word) (fl : Flags) : Word × Flags :=
  let t := a.toNat + b.toNat
  let res := BitVec.ofNat 16 t
  (res,
    { fl with
      h := decide (a.toNat % 0x1000 + b.toNat % 0x1000 > 0xFFF)
      c := decide (t > 0xFFFF)
      n := false
      f5 := res.getLsbD 13
      f3 := res.getLsbD 11 })

/-- `Adc16(a, b, c)` (R651). -/
def adc16 (a b : Word) (c : Bool) : Word × Flags :=
  let t := a.toNat + b.toNat + c.toNat
  let res := BitVec.ofNat 16 t
  (res,
    { s := res.getLsbD 15
      z := res == 0#16
      f5 := res.getLsbD 13
      h := decide (a.toNat % 0x1000 + b.toNat % 0x1000 + c.toNat > 0xFFF)
      f3 := res.getLsbD 11
      pv := (a.getLsbD 15 == b.getLsbD 15) && (res.getLsbD 15 != a.getLsbD 15)
      n := false
      c := decide (t > 0xFFFF) })

/-- `Sbc16(a, b, c)` (R652). -/
def sbc16 (a b : Word) (c : Bool) : Word × Flags :=
  let t : Int := (a.toNat : Int) - b.toNat - c.toNat
  let res := BitVec.ofInt 16 t
  (res,
    { s := res.getLsbD 15
      z := res == 0#16
      f5 := res.getLsbD 13
      h := decide (((a.toNat % 0x1000 : Nat) : Int) - (b.toNat % 0x1000 : Nat) - c.toNat < 0)
      f3 := res.getLsbD 11
      pv := (a.getLsbD 15 != b.getLsbD 15) && (res.getLsbD 15 != a.getLsbD 15)
      n := true
      c := decide (t < 0) })

/-! ## Rotates, shifts and bits -/

/-- The rotate and shift operations (R310, R704). -/
inductive RotOp where
  | rlc
  | rrc
  | rl
  | rr
  | sla
  | sra
  | sll
  | srl
deriving DecidableEq, Repr

/-- The result of `Rot(op, v)` with carry-in c (R704). -/
def rotResult (op : RotOp) (v : Byte) (c : Bool) : Byte :=
  match op with
  | .rlc => (v <<< 1) ||| bitByte (v.getLsbD 7)
  | .rrc => (v >>> 1) ||| (bitByte (v.getLsbD 0) <<< 7)
  | .rl => (v <<< 1) ||| bitByte c
  | .rr => (v >>> 1) ||| (bitByte c <<< 7)
  | .sla => v <<< 1
  | .sra => (v >>> 1) ||| (bitByte (v.getLsbD 7) <<< 7)
  | .sll => (v <<< 1) ||| 1#8
  | .srl => v >>> 1

/-- The carry out of `Rot(op, v)` (R704): bit 7 leftwards, bit 0 rightwards. -/
def rotCarry (op : RotOp) (v : Byte) : Bool :=
  match op with
  | .rlc => v.getLsbD 7
  | .rrc => v.getLsbD 0
  | .rl => v.getLsbD 7
  | .rr => v.getLsbD 0
  | .sla => v.getLsbD 7
  | .sra => v.getLsbD 0
  | .sll => v.getLsbD 7
  | .srl => v.getLsbD 0

/-- `Rot(op, v)` with its flags: sz53p of the result, H = 0, N = 0, C = carry out (R704). -/
def rot (op : RotOp) (v : Byte) (fl : Flags) : Byte × Flags :=
  let res := rotResult op v fl.c
  (res, { sz53p res fl with h := false, n := false, c := rotCarry op v })

/-- The accumulator rotates (R700 to R703): C, H, N, F5, F3 written, S, Z, PV unchanged. -/
def rotA (op : RotOp) (a : Byte) (fl : Flags) : Byte × Flags :=
  let res := rotResult op a fl.c
  (res, { fl with c := rotCarry op a, h := false, n := false, f5 := res.getLsbD 5, f3 := res.getLsbD 3 })

/-- `BitTest(b, v, xy)` (47_bit.md R760); C unchanged. -/
def bitTest (bit : Fin 8) (v xy : Byte) (fl : Flags) : Flags :=
  let t := v.getLsbD bit.val
  { fl with
    z := !t
    pv := !t
    s := decide (bit.val = 7) && t
    h := true
    n := false
    f5 := xy.getLsbD 5
    f3 := xy.getLsbD 3 }

/-- `v & ~(1 << b)` (R770). -/
def resBit (bit : Fin 8) (v : Byte) : Byte := v &&& ~~~(1#8 <<< bit.val)

/-- `v | (1 << b)` (R771). -/
def setBit (bit : Fin 8) (v : Byte) : Byte := v ||| (1#8 <<< bit.val)

/-! ## Block instructions -/

/-- The flags of a block load (42_exchange_block.md R506): n is the byte plus A, `bc` the counter after its decrement. -/
def blockLoadFlags (v a : Byte) (bc : Word) (fl : Flags) : Flags :=
  let n := v + a
  { fl with h := false, n := false, pv := bc != 0#16, f3 := n.getLsbD 3, f5 := n.getLsbD 1 }

/-- The half-borrow of a block compare: `A[3:0] < v[3:0]` (R510). -/
def compareHalf (a v : Byte) : Bool := decide (a.toNat % 16 < v.toNat % 16)

/-- The flags of a block compare (R510): C unchanged, n is A - v - H, `bc` the counter after its decrement. -/
def blockCompareFlags (a v : Byte) (bc : Word) (fl : Flags) : Flags :=
  let res := a - v
  let n := res - bitByte (compareHalf a v)
  { fl with
    s := res.getLsbD 7
    z := res == 0#8
    h := compareHalf a v
    n := true
    pv := bc != 0#16
    f3 := n.getLsbD 3
    f5 := n.getLsbD 1 }

/-- The flags of a block I/O instruction (49_io.md R866): t the byte transferred, b the counter after its decrement, k as each
instruction defines it. -/
def blockIoFlags (t b : Byte) (k : Nat) : Flags where
  s := b.getLsbD 7
  z := b == 0#8
  f5 := b.getLsbD 5
  h := decide (k > 255)
  f3 := b.getLsbD 3
  pv := parity (BitVec.ofNat 8 (k % 8) ^^^ b)
  n := t.getLsbD 7
  c := decide (k > 255)

end Sys2Proof.Machine
end

