-- ==== Sys2Proof/Syntax.lean ====
section
/-! DEFINITION. The instructions: one constructor of `Instr` per row of spec/opcode_table.json and the operand
types of 30_encoding.md R310, R311, R322. -/

namespace Sys2Proof

/-- The 8-bit registers a 3-bit code names; code 6 is a memory operand and has rows of its own (R310). -/
inductive Reg8 where
  | b | c | d | e | h | l | a
deriving DecidableEq, Repr

/-- The 8-bit registers under a DD or FD prefix: codes 4 and 5 name XYH and XYL (R322). -/
inductive RegX where
  | b | c | d | e | xh | xl | a
deriving DecidableEq, Repr

/-- `rp` (R310). -/
inductive RegPair where
  | bc | de | hl | sp
deriving DecidableEq, Repr

/-- `rp` under a DD or FD prefix: code 2 names the index register itself (R310, R654). -/
inductive XPair where
  | bc | de | xy | sp
deriving DecidableEq, Repr

/-- `rp2`, used by PUSH and POP (R310). -/
inductive StackPair where
  | bc | de | hl | af
deriving DecidableEq, Repr

/-- `cc` (10_state.md R110). -/
inductive Cond where
  | nz | z | nc | c | po | pe | p | m
deriving DecidableEq, Repr

/-- The condition field `k` of `JR cc,e` (R311). -/
inductive RelCond where
  | nz | z | nc | c
deriving DecidableEq, Repr

/-- The half of an index register: XYH (y = 0) or XYL (y = 1) (R310, R322). -/
inductive Half where
  | high | low
deriving DecidableEq, Repr

/-- The index register a prefix names: DD is IX, FD is IY (R11). -/
inductive XY where
  | ix | iy
deriving DecidableEq, Repr

/-- The bytes that make a DD or FD before them an ignored prefix (R324). -/
inductive ChainByte where
  | dd | ed | fd
deriving DecidableEq, Repr

/-- One constructor per row of spec/opcode_table.json. `d` is a raw displacement byte, sign-extended where it is used
(R306, R313); `y`, `z` and `op` of the mirror and no-operation rows keep the bits the encoding leaves free. The rows with operands come first, then
those without, each in the table's order. -/
inductive Instr where
  /-- LD rp,nn: LD_rp_nn, table base, R450. -/
  | ldRpNn (rp : RegPair) (nn : Word)
  /-- ADD HL,rp: ADD_HL_rp, table base, R653. -/
  | addHlRp (rp : RegPair)
  /-- LD (nn),HL: LD__nn__HL, table base, R455. -/
  | ldAtNnHl (nn : Word)
  /-- LD (nn),A: LD__nn__A, table base, R413. -/
  | ldAtNnA (nn : Word)
  /-- LD HL,(nn): LD_HL__nn, table base, R452. -/
  | ldHlAtNn (nn : Word)
  /-- LD A,(nn): LD_A__nn, table base, R410. -/
  | ldAAtNn (nn : Word)
  /-- INC rp: INC_rp, table base, R657. -/
  | incRp (rp : RegPair)
  /-- DEC rp: DEC_rp, table base, R659. -/
  | decRp (rp : RegPair)
  /-- INC r: INC_r, table base, R570. -/
  | incR (r : Reg8)
  /-- DEC r: DEC_r, table base, R573. -/
  | decR (r : Reg8)
  /-- LD r,n: LD_r_n, table base, R401. -/
  | ldRN (r : Reg8) (n : Byte)
  /-- LD (HL),n: LD__HL__n, table base, R406. -/
  | ldAtHlN (n : Byte)
  /-- DJNZ e: DJNZ_e, table base, R806. -/
  | djnzE (d : Byte)
  /-- JR e: JR_e, table base, R802. -/
  | jrE (d : Byte)
  /-- JR cc,e: JR_cc_e, table base, R803. -/
  | jrCcE (cc : RelCond) (d : Byte)
  /-- LD r,s: LD_r_s, table base, R400. -/
  | ldRS (r : Reg8) (src : Reg8)
  /-- LD r,(HL): LD_r__HL, table base, R402. -/
  | ldRAtHl (r : Reg8)
  /-- LD (HL),s: LD__HL__s, table base, R404. -/
  | ldAtHlS (src : Reg8)
  /-- ADD A,s: ADD_A_s, table base, R560. -/
  | addAS (src : Reg8)
  /-- ADD A,n: ADD_A_n, table base, R560. -/
  | addAN (n : Byte)
  /-- ADC A,s: ADC_A_s, table base, R561. -/
  | adcAS (src : Reg8)
  /-- ADC A,n: ADC_A_n, table base, R561. -/
  | adcAN (n : Byte)
  /-- SUB s: SUB_s, table base, R562. -/
  | subS (src : Reg8)
  /-- SUB n: SUB_n, table base, R562. -/
  | subN (n : Byte)
  /-- SBC A,s: SBC_A_s, table base, R563. -/
  | sbcAS (src : Reg8)
  /-- SBC A,n: SBC_A_n, table base, R563. -/
  | sbcAN (n : Byte)
  /-- AND s: AND_s, table base, R564. -/
  | andS (src : Reg8)
  /-- AND n: AND_n, table base, R564. -/
  | andN (n : Byte)
  /-- XOR s: XOR_s, table base, R565. -/
  | xorS (src : Reg8)
  /-- XOR n: XOR_n, table base, R565. -/
  | xorN (n : Byte)
  /-- OR s: OR_s, table base, R566. -/
  | orS (src : Reg8)
  /-- OR n: OR_n, table base, R566. -/
  | orN (n : Byte)
  /-- CP s: CP_s, table base, R567. -/
  | cpS (src : Reg8)
  /-- CP n: CP_n, table base, R567. -/
  | cpN (n : Byte)
  /-- RET cc: RET_cc, table base, R816. -/
  | retCc (cc : Cond)
  /-- POP rp2: POP_rp2, table base, R462. -/
  | popRp2 (rp : StackPair)
  /-- JP cc,nn: JP_cc_nn, table base, R801. -/
  | jpCcNn (cc : Cond) (nn : Word)
  /-- JP nn: JP_nn, table base, R800. -/
  | jpNn (nn : Word)
  /-- OUT (n),A: OUT__n__A, table base, R855. -/
  | outAtNA (n : Byte)
  /-- IN A,(n): IN_A__n, table base, R852. -/
  | inAAtN (n : Byte)
  /-- CALL cc,nn: CALL_cc_nn, table base, R811. -/
  | callCcNn (cc : Cond) (nn : Word)
  /-- PUSH rp2: PUSH_rp2, table base, R460. -/
  | pushRp2 (rp : StackPair)
  /-- CALL nn: CALL_nn, table base, R810. -/
  | callNn (nn : Word)
  /-- RST p: RST_p, table base, R822. -/
  | rstP (t : Fin 8)
  /-- RLC r: RLC_r, table CB, R705. -/
  | rlcR (r : Reg8)
  /-- RRC r: RRC_r, table CB, R706. -/
  | rrcR (r : Reg8)
  /-- RL r: RL_r, table CB, R707. -/
  | rlR (r : Reg8)
  /-- RR r: RR_r, table CB, R708. -/
  | rrR (r : Reg8)
  /-- SLA r: SLA_r, table CB, R709. -/
  | slaR (r : Reg8)
  /-- SRA r: SRA_r, table CB, R710. -/
  | sraR (r : Reg8)
  /-- SLL r: SLL_r, table CB, R711. -/
  | sllR (r : Reg8)
  /-- SRL r: SRL_r, table CB, R712. -/
  | srlR (r : Reg8)
  /-- BIT b,r: BIT_b_r, table CB, R750. -/
  | bitBR (bit : Fin 8) (r : Reg8)
  /-- BIT b,(HL): BIT_b__HL, table CB, R761. -/
  | bitBAtHl (bit : Fin 8)
  /-- RES b,r: RES_b_r, table CB, R770. -/
  | resBR (bit : Fin 8) (r : Reg8)
  /-- RES b,(HL): RES_b__HL, table CB, R770. -/
  | resBAtHl (bit : Fin 8)
  /-- SET b,r: SET_b_r, table CB, R771. -/
  | setBR (bit : Fin 8) (r : Reg8)
  /-- SET b,(HL): SET_b__HL, table CB, R771. -/
  | setBAtHl (bit : Fin 8)
  /-- IN r,(C): IN_r__C, table ED, R853. -/
  | inRAtC (r : Reg8)
  /-- OUT (C),r: OUT__C__r, table ED, R856. -/
  | outAtCR (r : Reg8)
  /-- SBC HL,rp: SBC_HL_rp, table ED, R656. -/
  | sbcHlRp (rp : RegPair)
  /-- ADC HL,rp: ADC_HL_rp, table ED, R655. -/
  | adcHlRp (rp : RegPair)
  /-- LD (nn),rp: LD__nn__rp, table ED, R456. -/
  | ldAtNnRp (nn : Word) (rp : RegPair)
  /-- LD (nn),HL (ED form): LD__nn__HL__ED_form, table ED, R456. -/
  | ldAtNnHlEd (nn : Word)
  /-- LD rp,(nn): LD_rp__nn, table ED, R453. -/
  | ldRpAtNn (rp : RegPair) (nn : Word)
  /-- LD HL,(nn) (ED form): LD_HL__nn___ED_form, table ED, R453. -/
  | ldHlAtNnEd (nn : Word)
  /-- NEG (mirror): NEG__mirror, table ED, R602. -/
  | negMirror (y : Fin 8)
  /-- RETN (mirror): RETN__mirror, table ED, R818. -/
  | retnMirror (y : Fin 8)
  /-- IM 0/1: IM_0_1, table ED, R617. -/
  | im01 (y : Bool)
  /-- NOP (ED 77/7F): NOP__ED_77_7F, table ED, R618. -/
  | nopEd7 (y : Bool)
  /-- NOP (ED undefined): NOP__ED_undefined, table ED, R618. -/
  | nopEd (op : Byte)
  /-- ADD IX,rp: ADD_IX_rp, table DD, R654. -/
  | addIxRp (rp : XPair)
  /-- LD IX,nn: LD_IX_nn, table DD, R451. -/
  | ldIxNn (nn : Word)
  /-- LD (nn),IX: LD__nn__IX, table DD, R457. -/
  | ldAtNnIx (nn : Word)
  /-- LD IX,(nn): LD_IX__nn, table DD, R454. -/
  | ldIxAtNn (nn : Word)
  /-- INC IXH/IXL: INC_IXH_IXL, table DD, R576. -/
  | incIxHalf (half : Half)
  /-- DEC IXH/IXL: DEC_IXH_IXL, table DD, R576. -/
  | decIxHalf (half : Half)
  /-- LD IXH/IXL,n: LD_IXH_IXL_n, table DD, R419. -/
  | ldIxHalfN (half : Half) (n : Byte)
  /-- INC (IX+d): INC__IX+d, table DD, R572. -/
  | incAtIxd (d : Byte)
  /-- DEC (IX+d): DEC__IX+d, table DD, R575. -/
  | decAtIxd (d : Byte)
  /-- LD (IX+d),n: LD__IX+d__n, table DD, R407. -/
  | ldAtIxdN (d : Byte) (n : Byte)
  /-- LD r,(IX+d): LD_r__IX+d, table DD, R403. -/
  | ldRAtIxd (r : Reg8) (d : Byte)
  /-- LD (IX+d),s: LD__IX+d__s, table DD, R405. -/
  | ldAtIxdS (d : Byte) (src : Reg8)
  /-- LD r,s with IXH/IXL: LD_r_s_with_IXH_IXL, table DD, R418. -/
  | ldRSIxHalf (r : RegX) (src : RegX)
  /-- ADD A,IXH/IXL: ADD_A_IXH_IXL, table DD, R560. -/
  | addAIxHalf (half : Half)
  /-- ADD A,(IX+d): ADD_A__IX+d, table DD, R560. -/
  | addAAtIxd (d : Byte)
  /-- ADC A,IXH/IXL: ADC_A_IXH_IXL, table DD, R561. -/
  | adcAIxHalf (half : Half)
  /-- ADC A,(IX+d): ADC_A__IX+d, table DD, R561. -/
  | adcAAtIxd (d : Byte)
  /-- SUB IXH/IXL: SUB_IXH_IXL, table DD, R562. -/
  | subIxHalf (half : Half)
  /-- SUB (IX+d): SUB__IX+d, table DD, R562. -/
  | subAtIxd (d : Byte)
  /-- SBC A,IXH/IXL: SBC_A_IXH_IXL, table DD, R563. -/
  | sbcAIxHalf (half : Half)
  /-- SBC A,(IX+d): SBC_A__IX+d, table DD, R563. -/
  | sbcAAtIxd (d : Byte)
  /-- AND IXH/IXL: AND_IXH_IXL, table DD, R564. -/
  | andIxHalf (half : Half)
  /-- AND (IX+d): AND__IX+d, table DD, R564. -/
  | andAtIxd (d : Byte)
  /-- XOR IXH/IXL: XOR_IXH_IXL, table DD, R565. -/
  | xorIxHalf (half : Half)
  /-- XOR (IX+d): XOR__IX+d, table DD, R565. -/
  | xorAtIxd (d : Byte)
  /-- OR IXH/IXL: OR_IXH_IXL, table DD, R566. -/
  | orIxHalf (half : Half)
  /-- OR (IX+d): OR__IX+d, table DD, R566. -/
  | orAtIxd (d : Byte)
  /-- CP IXH/IXL: CP_IXH_IXL, table DD, R567. -/
  | cpIxHalf (half : Half)
  /-- CP (IX+d): CP__IX+d, table DD, R567. -/
  | cpAtIxd (d : Byte)
  /-- ignored prefix DD: ignored_prefix_DD, table DD, R324. -/
  | ignoredDd (next : ChainByte)
  /-- DD + unprefixed opcode: DD_+_unprefixed_opcode, table DD, R323. -/
  | ddUnprefixed (inner : Instr)
  /-- ADD IY,rp: ADD_IY_rp, table FD, R654. -/
  | addIyRp (rp : XPair)
  /-- LD IY,nn: LD_IY_nn, table FD, R451. -/
  | ldIyNn (nn : Word)
  /-- LD (nn),IY: LD__nn__IY, table FD, R457. -/
  | ldAtNnIy (nn : Word)
  /-- LD IY,(nn): LD_IY__nn, table FD, R454. -/
  | ldIyAtNn (nn : Word)
  /-- INC IYH/IYL: INC_IYH_IYL, table FD, R576. -/
  | incIyHalf (half : Half)
  /-- DEC IYH/IYL: DEC_IYH_IYL, table FD, R576. -/
  | decIyHalf (half : Half)
  /-- LD IYH/IYL,n: LD_IYH_IYL_n, table FD, R419. -/
  | ldIyHalfN (half : Half) (n : Byte)
  /-- INC (IY+d): INC__IY+d, table FD, R572. -/
  | incAtIyd (d : Byte)
  /-- DEC (IY+d): DEC__IY+d, table FD, R575. -/
  | decAtIyd (d : Byte)
  /-- LD (IY+d),n: LD__IY+d__n, table FD, R407. -/
  | ldAtIydN (d : Byte) (n : Byte)
  /-- LD r,(IY+d): LD_r__IY+d, table FD, R403. -/
  | ldRAtIyd (r : Reg8) (d : Byte)
  /-- LD (IY+d),s: LD__IY+d__s, table FD, R405. -/
  | ldAtIydS (d : Byte) (src : Reg8)
  /-- LD r,s with IYH/IYL: LD_r_s_with_IYH_IYL, table FD, R418. -/
  | ldRSIyHalf (r : RegX) (src : RegX)
  /-- ADD A,IYH/IYL: ADD_A_IYH_IYL, table FD, R560. -/
  | addAIyHalf (half : Half)
  /-- ADD A,(IY+d): ADD_A__IY+d, table FD, R560. -/
  | addAAtIyd (d : Byte)
  /-- ADC A,IYH/IYL: ADC_A_IYH_IYL, table FD, R561. -/
  | adcAIyHalf (half : Half)
  /-- ADC A,(IY+d): ADC_A__IY+d, table FD, R561. -/
  | adcAAtIyd (d : Byte)
  /-- SUB IYH/IYL: SUB_IYH_IYL, table FD, R562. -/
  | subIyHalf (half : Half)
  /-- SUB (IY+d): SUB__IY+d, table FD, R562. -/
  | subAtIyd (d : Byte)
  /-- SBC A,IYH/IYL: SBC_A_IYH_IYL, table FD, R563. -/
  | sbcAIyHalf (half : Half)
  /-- SBC A,(IY+d): SBC_A__IY+d, table FD, R563. -/
  | sbcAAtIyd (d : Byte)
  /-- AND IYH/IYL: AND_IYH_IYL, table FD, R564. -/
  | andIyHalf (half : Half)
  /-- AND (IY+d): AND__IY+d, table FD, R564. -/
  | andAtIyd (d : Byte)
  /-- XOR IYH/IYL: XOR_IYH_IYL, table FD, R565. -/
  | xorIyHalf (half : Half)
  /-- XOR (IY+d): XOR__IY+d, table FD, R565. -/
  | xorAtIyd (d : Byte)
  /-- OR IYH/IYL: OR_IYH_IYL, table FD, R566. -/
  | orIyHalf (half : Half)
  /-- OR (IY+d): OR__IY+d, table FD, R566. -/
  | orAtIyd (d : Byte)
  /-- CP IYH/IYL: CP_IYH_IYL, table FD, R567. -/
  | cpIyHalf (half : Half)
  /-- CP (IY+d): CP__IY+d, table FD, R567. -/
  | cpAtIyd (d : Byte)
  /-- ignored prefix FD: ignored_prefix_FD, table FD, R324. -/
  | ignoredFd (next : ChainByte)
  /-- FD + unprefixed opcode: FD_+_unprefixed_opcode, table FD, R323. -/
  | fdUnprefixed (inner : Instr)
  /-- RLC (IX+d): RLC__IX+d, table DDCB, R705. -/
  | rlcAtIxd (d : Byte)
  /-- LD r,RLC (IX+d): LD_r_RLC__IX+d, table DDCB, R705, R713. -/
  | ldRRlcAtIxd (d : Byte) (r : Reg8)
  /-- RRC (IX+d): RRC__IX+d, table DDCB, R706. -/
  | rrcAtIxd (d : Byte)
  /-- LD r,RRC (IX+d): LD_r_RRC__IX+d, table DDCB, R706, R713. -/
  | ldRRrcAtIxd (d : Byte) (r : Reg8)
  /-- RL (IX+d): RL__IX+d, table DDCB, R707. -/
  | rlAtIxd (d : Byte)
  /-- LD r,RL (IX+d): LD_r_RL__IX+d, table DDCB, R707, R713. -/
  | ldRRlAtIxd (d : Byte) (r : Reg8)
  /-- RR (IX+d): RR__IX+d, table DDCB, R708. -/
  | rrAtIxd (d : Byte)
  /-- LD r,RR (IX+d): LD_r_RR__IX+d, table DDCB, R708, R713. -/
  | ldRRrAtIxd (d : Byte) (r : Reg8)
  /-- SLA (IX+d): SLA__IX+d, table DDCB, R709. -/
  | slaAtIxd (d : Byte)
  /-- LD r,SLA (IX+d): LD_r_SLA__IX+d, table DDCB, R709, R713. -/
  | ldRSlaAtIxd (d : Byte) (r : Reg8)
  /-- SRA (IX+d): SRA__IX+d, table DDCB, R710. -/
  | sraAtIxd (d : Byte)
  /-- LD r,SRA (IX+d): LD_r_SRA__IX+d, table DDCB, R710, R713. -/
  | ldRSraAtIxd (d : Byte) (r : Reg8)
  /-- SLL (IX+d): SLL__IX+d, table DDCB, R711. -/
  | sllAtIxd (d : Byte)
  /-- LD r,SLL (IX+d): LD_r_SLL__IX+d, table DDCB, R711, R713. -/
  | ldRSllAtIxd (d : Byte) (r : Reg8)
  /-- SRL (IX+d): SRL__IX+d, table DDCB, R712. -/
  | srlAtIxd (d : Byte)
  /-- LD r,SRL (IX+d): LD_r_SRL__IX+d, table DDCB, R712, R713. -/
  | ldRSrlAtIxd (d : Byte) (r : Reg8)
  /-- BIT b,(IX+d): BIT_b__IX+d, table DDCB, R762. -/
  | bitBAtIxd (bit : Fin 8) (d : Byte)
  /-- BIT b,(IX+d) (mirror): BIT_b__IX+d___mirror, table DDCB, R762. -/
  | bitBAtIxdMirror (bit : Fin 8) (d : Byte) (z : Reg8)
  /-- RES b,(IX+d): RES_b__IX+d, table DDCB, R770. -/
  | resBAtIxd (bit : Fin 8) (d : Byte)
  /-- LD r,RES b,(IX+d): LD_r_RES_b__IX+d, table DDCB, R770, R772. -/
  | ldRResBAtIxd (bit : Fin 8) (d : Byte) (r : Reg8)
  /-- SET b,(IX+d): SET_b__IX+d, table DDCB, R771. -/
  | setBAtIxd (bit : Fin 8) (d : Byte)
  /-- LD r,SET b,(IX+d): LD_r_SET_b__IX+d, table DDCB, R771, R772. -/
  | ldRSetBAtIxd (bit : Fin 8) (d : Byte) (r : Reg8)
  /-- RLC (IY+d): RLC__IY+d, table FDCB, R705. -/
  | rlcAtIyd (d : Byte)
  /-- LD r,RLC (IY+d): LD_r_RLC__IY+d, table FDCB, R705, R713. -/
  | ldRRlcAtIyd (d : Byte) (r : Reg8)
  /-- RRC (IY+d): RRC__IY+d, table FDCB, R706. -/
  | rrcAtIyd (d : Byte)
  /-- LD r,RRC (IY+d): LD_r_RRC__IY+d, table FDCB, R706, R713. -/
  | ldRRrcAtIyd (d : Byte) (r : Reg8)
  /-- RL (IY+d): RL__IY+d, table FDCB, R707. -/
  | rlAtIyd (d : Byte)
  /-- LD r,RL (IY+d): LD_r_RL__IY+d, table FDCB, R707, R713. -/
  | ldRRlAtIyd (d : Byte) (r : Reg8)
  /-- RR (IY+d): RR__IY+d, table FDCB, R708. -/
  | rrAtIyd (d : Byte)
  /-- LD r,RR (IY+d): LD_r_RR__IY+d, table FDCB, R708, R713. -/
  | ldRRrAtIyd (d : Byte) (r : Reg8)
  /-- SLA (IY+d): SLA__IY+d, table FDCB, R709. -/
  | slaAtIyd (d : Byte)
  /-- LD r,SLA (IY+d): LD_r_SLA__IY+d, table FDCB, R709, R713. -/
  | ldRSlaAtIyd (d : Byte) (r : Reg8)
  /-- SRA (IY+d): SRA__IY+d, table FDCB, R710. -/
  | sraAtIyd (d : Byte)
  /-- LD r,SRA (IY+d): LD_r_SRA__IY+d, table FDCB, R710, R713. -/
  | ldRSraAtIyd (d : Byte) (r : Reg8)
  /-- SLL (IY+d): SLL__IY+d, table FDCB, R711. -/
  | sllAtIyd (d : Byte)
  /-- LD r,SLL (IY+d): LD_r_SLL__IY+d, table FDCB, R711, R713. -/
  | ldRSllAtIyd (d : Byte) (r : Reg8)
  /-- SRL (IY+d): SRL__IY+d, table FDCB, R712. -/
  | srlAtIyd (d : Byte)
  /-- LD r,SRL (IY+d): LD_r_SRL__IY+d, table FDCB, R712, R713. -/
  | ldRSrlAtIyd (d : Byte) (r : Reg8)
  /-- BIT b,(IY+d): BIT_b__IY+d, table FDCB, R762. -/
  | bitBAtIyd (bit : Fin 8) (d : Byte)
  /-- BIT b,(IY+d) (mirror): BIT_b__IY+d___mirror, table FDCB, R762. -/
  | bitBAtIydMirror (bit : Fin 8) (d : Byte) (z : Reg8)
  /-- RES b,(IY+d): RES_b__IY+d, table FDCB, R770. -/
  | resBAtIyd (bit : Fin 8) (d : Byte)
  /-- LD r,RES b,(IY+d): LD_r_RES_b__IY+d, table FDCB, R770, R772. -/
  | ldRResBAtIyd (bit : Fin 8) (d : Byte) (r : Reg8)
  /-- SET b,(IY+d): SET_b__IY+d, table FDCB, R771. -/
  | setBAtIyd (bit : Fin 8) (d : Byte)
  /-- LD r,SET b,(IY+d): LD_r_SET_b__IY+d, table FDCB, R771, R772. -/
  | ldRSetBAtIyd (bit : Fin 8) (d : Byte) (r : Reg8)
  /-- NOP: NOP, table base, R610. -/
  | nop
  /-- LD (BC),A: LD__BC__A, table base, R411. -/
  | ldAtBcA
  /-- LD (DE),A: LD__DE__A, table base, R412. -/
  | ldAtDeA
  /-- LD A,(BC): LD_A__BC, table base, R408. -/
  | ldAAtBc
  /-- LD A,(DE): LD_A__DE, table base, R409. -/
  | ldAAtDe
  /-- INC (HL): INC__HL, table base, R571. -/
  | incAtHl
  /-- DEC (HL): DEC__HL, table base, R574. -/
  | decAtHl
  /-- RLCA: RLCA, table base, R700. -/
  | rlca
  /-- RRCA: RRCA, table base, R702. -/
  | rrca
  /-- RLA: RLA, table base, R701. -/
  | rla
  /-- RRA: RRA, table base, R703. -/
  | rra
  /-- DAA: DAA, table base, R600. -/
  | daa
  /-- CPL: CPL, table base, R601. -/
  | cpl
  /-- SCF: SCF, table base, R605. -/
  | scf
  /-- CCF: CCF, table base, R606. -/
  | ccf
  /-- EX AF,AF': EX_AF_AF, table base, R500. -/
  | exAfAf
  /-- RET: RET, table base, R815. -/
  | ret
  /-- EXX: EXX, table base, R502. -/
  | exx
  /-- JP (HL): JP__HL, table base, R804. -/
  | jpHl
  /-- LD SP,HL: LD_SP_HL, table base, R458. -/
  | ldSpHl
  /-- EX DE,HL: EX_DE_HL, table base, R501. -/
  | exDeHl
  /-- DI: DI, table base, R612. -/
  | di
  /-- EI: EI, table base, R613. -/
  | ei
  /-- HALT: HALT, table base, R611. -/
  | halt
  /-- ADD A,(HL): ADD_A__HL, table base, R560. -/
  | addAAtHl
  /-- ADC A,(HL): ADC_A__HL, table base, R561. -/
  | adcAAtHl
  /-- SUB (HL): SUB__HL, table base, R562. -/
  | subAtHl
  /-- SBC A,(HL): SBC_A__HL, table base, R563. -/
  | sbcAAtHl
  /-- AND (HL): AND__HL, table base, R564. -/
  | andAtHl
  /-- XOR (HL): XOR__HL, table base, R565. -/
  | xorAtHl
  /-- OR (HL): OR__HL, table base, R566. -/
  | orAtHl
  /-- CP (HL): CP__HL, table base, R567. -/
  | cpAtHl
  /-- EX (SP),HL: EX__SP__HL, table base, R503. -/
  | exAtSpHl
  /-- prefix CB: prefix_CB, table base, R302. -/
  | prefixCb
  /-- prefix ED: prefix_ED, table base, R302. -/
  | prefixEd
  /-- prefix DD: prefix_DD, table base, R302. -/
  | prefixDd
  /-- prefix FD: prefix_FD, table base, R302. -/
  | prefixFd
  /-- RLC (HL): RLC__HL, table CB, R705. -/
  | rlcAtHl
  /-- RRC (HL): RRC__HL, table CB, R706. -/
  | rrcAtHl
  /-- RL (HL): RL__HL, table CB, R707. -/
  | rlAtHl
  /-- RR (HL): RR__HL, table CB, R708. -/
  | rrAtHl
  /-- SLA (HL): SLA__HL, table CB, R709. -/
  | slaAtHl
  /-- SRA (HL): SRA__HL, table CB, R710. -/
  | sraAtHl
  /-- SLL (HL): SLL__HL, table CB, R711. -/
  | sllAtHl
  /-- SRL (HL): SRL__HL, table CB, R712. -/
  | srlAtHl
  /-- IN F,(C): IN_F__C, table ED, R854. -/
  | inFAtC
  /-- OUT (C),0: OUT__C__0, table ED, R857. -/
  | outAtC0
  /-- NEG: NEG, table ED, R602. -/
  | neg
  /-- RETN: RETN, table ED, R818. -/
  | retn
  /-- RETI: RETI, table ED, R817. -/
  | reti
  /-- IM 0: IM_0, table ED, R614. -/
  | im0
  /-- IM 0 (mirror): IM_0__mirror, table ED, R614. -/
  | im0Mirror
  /-- IM 1: IM_1, table ED, R615. -/
  | im1
  /-- IM 1 (mirror): IM_1__mirror, table ED, R615. -/
  | im1Mirror
  /-- IM 2: IM_2, table ED, R616. -/
  | im2
  /-- IM 2 (mirror): IM_2__mirror, table ED, R616. -/
  | im2Mirror
  /-- LD I,A: LD_I_A, table ED, R416. -/
  | ldIA
  /-- LD R,A: LD_R_A, table ED, R417. -/
  | ldRA
  /-- LD A,I: LD_A_I, table ED, R414. -/
  | ldAI
  /-- LD A,R: LD_A_R, table ED, R415. -/
  | ldAR
  /-- RRD: RRD, table ED, R715. -/
  | rrd
  /-- RLD: RLD, table ED, R714. -/
  | rld
  /-- LDI: LDI, table ED, R506. -/
  | ldi
  /-- CPI: CPI, table ED, R510. -/
  | cpi
  /-- INI: INI, table ED, R858. -/
  | ini
  /-- OUTI: OUTI, table ED, R862. -/
  | outi
  /-- LDD: LDD, table ED, R508. -/
  | ldd
  /-- CPD: CPD, table ED, R512. -/
  | cpd
  /-- IND: IND, table ED, R860. -/
  | ind
  /-- OUTD: OUTD, table ED, R864. -/
  | outd
  /-- LDIR: LDIR, table ED, R507. -/
  | ldir
  /-- CPIR: CPIR, table ED, R511. -/
  | cpir
  /-- INIR: INIR, table ED, R859. -/
  | inir
  /-- OTIR: OTIR, table ED, R863. -/
  | otir
  /-- LDDR: LDDR, table ED, R509. -/
  | lddr
  /-- CPDR: CPDR, table ED, R513. -/
  | cpdr
  /-- INDR: INDR, table ED, R861. -/
  | indr
  /-- OTDR: OTDR, table ED, R865. -/
  | otdr
  /-- INC IX: INC_IX, table DD, R658. -/
  | incIx
  /-- DEC IX: DEC_IX, table DD, R660. -/
  | decIx
  /-- POP IX: POP_IX, table DD, R463. -/
  | popIx
  /-- EX (SP),IX: EX__SP__IX, table DD, R504. -/
  | exAtSpIx
  /-- PUSH IX: PUSH_IX, table DD, R461. -/
  | pushIx
  /-- JP (IX): JP__IX, table DD, R805. -/
  | jpIx
  /-- LD SP,IX: LD_SP_IX, table DD, R459. -/
  | ldSpIx
  /-- prefix DD CB: prefix_DD_CB, table DD, R302. -/
  | prefixDdCb
  /-- INC IY: INC_IY, table FD, R658. -/
  | incIy
  /-- DEC IY: DEC_IY, table FD, R660. -/
  | decIy
  /-- POP IY: POP_IY, table FD, R463. -/
  | popIy
  /-- EX (SP),IY: EX__SP__IY, table FD, R504. -/
  | exAtSpIy
  /-- PUSH IY: PUSH_IY, table FD, R461. -/
  | pushIy
  /-- JP (IY): JP__IY, table FD, R805. -/
  | jpIy
  /-- LD SP,IY: LD_SP_IY, table FD, R459. -/
  | ldSpIy
  /-- prefix FD CB: prefix_FD_CB, table FD, R302. -/
  | prefixFdCb
deriving DecidableEq, Repr

end Sys2Proof
end

