-- ==== Sys2Proof/Machine/Operands.lean ====
section
/-! DEFINITION. The operand forms: the one place that reads or writes a named register, pair, index register or half
(10_state.md R101 to R106; 30_encoding.md R310, R322), evaluates a condition (R110), and forms an address (R306, R313) or a
port (49_io.md). Memory operands go through Machine/Ops.lean. -/

namespace Sys2Proof.Machine

namespace State

/-! ## 8-bit registers -/

/-- `reg8[r]` (R101, R310). -/
def reg (s : State) (r : Reg8) : Byte :=
  match r with
  | .b => s.b
  | .c => s.c
  | .d => s.d
  | .e => s.e
  | .h => s.h
  | .l => s.l
  | .a => s.a

/-- `reg8[r] <- v`. -/
def setReg (s : State) (r : Reg8) (v : Byte) : State :=
  match r with
  | .b => { s with b := v }
  | .c => { s with c := v }
  | .d => { s with d := v }
  | .e => { s with e := v }
  | .h => { s with h := v }
  | .l => { s with l := v }
  | .a => { s with a := v }

/-! ## Register pairs (R102): no storage of their own -/

/-- BC. -/
def bc (s : State) : Word := pair s.b s.c
/-- DE. -/
def de (s : State) : Word := pair s.d s.e
/-- HL. -/
def hl (s : State) : Word := pair s.h s.l
/-- AF. -/
def af (s : State) : Word := pair s.a s.f

/-- `BC <- v`, both halves at once (R102). -/
def setBc (s : State) (v : Word) : State := { s with b := hiByte v, c := loByte v }
/-- `DE <- v`. -/
def setDe (s : State) (v : Word) : State := { s with d := hiByte v, e := loByte v }
/-- `HL <- v`. -/
def setHl (s : State) (v : Word) : State := { s with h := hiByte v, l := loByte v }
/-- `AF <- v`: F takes all eight bits (R462). -/
def setAf (s : State) (v : Word) : State := { s with a := hiByte v, f := loByte v }

/-- `reg16[rp]` (R310). -/
def pairOf (s : State) (rp : RegPair) : Word :=
  match rp with
  | .bc => s.bc
  | .de => s.de
  | .hl => s.hl
  | .sp => s.sp

/-- `reg16[rp] <- v`. -/
def setPair (s : State) (rp : RegPair) (v : Word) : State :=
  match rp with
  | .bc => s.setBc v
  | .de => s.setDe v
  | .hl => s.setHl v
  | .sp => { s with sp := v }

/-- `reg16[rp2]` (R310). -/
def stackPair (s : State) (rp : StackPair) : Word :=
  match rp with
  | .bc => s.bc
  | .de => s.de
  | .hl => s.hl
  | .af => s.af

/-- `reg16[rp2] <- v`. -/
def setStackPair (s : State) (rp : StackPair) (v : Word) : State :=
  match rp with
  | .bc => s.setBc v
  | .de => s.setDe v
  | .hl => s.setHl v
  | .af => s.setAf v

/-! ## Index registers (R105, R322) -/

/-- XY: IX or IY (R11). -/
def xy (s : State) (x : XY) : Word :=
  match x with
  | .ix => s.ix
  | .iy => s.iy

/-- `XY <- v`. -/
def setXy (s : State) (x : XY) (v : Word) : State :=
  match x with
  | .ix => { s with ix := v }
  | .iy => { s with iy := v }

/-- `reg16x[rp]`: code 2 names the index register (R654). -/
def xPair (s : State) (x : XY) (rp : XPair) : Word :=
  match rp with
  | .bc => s.bc
  | .de => s.de
  | .xy => s.xy x
  | .sp => s.sp

/-- XYH or XYL (R322). -/
def half (s : State) (x : XY) (hf : Half) : Byte :=
  match hf with
  | .high => hiByte (s.xy x)
  | .low => loByte (s.xy x)

/-- Write XYH or XYL; the other half stays (R322). -/
def setHalf (s : State) (x : XY) (hf : Half) (v : Byte) : State :=
  match hf with
  | .high => s.setXy x (pair v (loByte (s.xy x)))
  | .low => s.setXy x (pair (hiByte (s.xy x)) v)

/-- `reg8x[r]` (R418). -/
def regX (s : State) (x : XY) (r : RegX) : Byte :=
  match r with
  | .b => s.b
  | .c => s.c
  | .d => s.d
  | .e => s.e
  | .xh => s.half x .high
  | .xl => s.half x .low
  | .a => s.a

/-- `reg8x[r] <- v`. -/
def setRegX (s : State) (x : XY) (r : RegX) (v : Byte) : State :=
  match r with
  | .b => s.setReg .b v
  | .c => s.setReg .c v
  | .d => s.setReg .d v
  | .e => s.setReg .e v
  | .xh => s.setHalf x .high v
  | .xl => s.setHalf x .low v
  | .a => s.setReg .a v

/-! ## Conditions (R110, R311) -/

/-- `cond(cc)`. -/
def cond (s : State) (cc : Cond) : Bool :=
  match cc with
  | .nz => !s.flags.z
  | .z => s.flags.z
  | .nc => !s.flags.c
  | .c => s.flags.c
  | .po => !s.flags.pv
  | .pe => s.flags.pv
  | .p => !s.flags.s
  | .m => s.flags.s

end State

/-- The condition a `JR cc,e` field names. -/
def condOf (cc : RelCond) : Cond :=
  match cc with
  | .nz => .nz
  | .z => .z
  | .nc => .nc
  | .c => .c

/-! ## Addresses and ports -/

/-- The effective address `trunc16(XY + sext_16(d))` (R306). -/
def indexed (s : State) (x : XY) (d : Byte) : Word := s.xy x + sext16 d

/-- The relative target `trunc16(PC' + sext_16(d))`, PC' being the address after the instruction (R313). -/
def relTarget (s : State) (d : Byte) : Word := s.pc + sext16 d

/-- The restart target `p * 8` (R310). -/
def restartTarget (t : Fin 8) : Word := BitVec.ofNat 16 (8 * t.val)

/-- The port `A : n` (49_io.md R852, R855). -/
def portAn (s : State) (n : Byte) : Word := pair s.a n

/-- The direction of a block instruction: HL (and DE) up or down. -/
inductive Dir where
  | up
  | down
deriving DecidableEq, Repr

/-- A 16-bit pointer moved by one, modulo 2^16 (R506, R508). -/
def Dir.move (dir : Dir) (p : Word) : Word :=
  match dir with
  | .up => p + 1#16
  | .down => p - 1#16

/-- An 8-bit value moved by one, modulo 2^8: `trunc8(C + 1)` and `trunc8(C - 1)` of R858 and R860. -/
def Dir.move8 (dir : Dir) (v : Byte) : Byte :=
  match dir with
  | .up => v + 1#8
  | .down => v - 1#8

end Sys2Proof.Machine
end

