-- ==== Sys2Proof/Machine/Ops.lean ====
section
/-! DEFINITION. The shared operations: memory and stack access (20_memory.md R220 to R223; 41_load16.md R470, R471), ports
(49_io.md R850, R851), free values (00_scope.md R9), the cycle count (70_reset_and_hazards.md R970), the repeat of a block
instruction (42_exchange_block.md R505), interrupt acceptance and the return from it (60_exceptions.md R910 to R920,
48_jump_call_return.md R817, R818), and the host's reset (R951). An operation that can fail takes what follows it as a function,
so that a failing access ends the step with the state reached so far (60_exceptions.md R907, R908). -/

namespace Sys2Proof.Machine

/-- The three outcomes of an instruction or a step. -/
abbrev Result := Host.Outcome State Fault Refusal

/-- The fault of a failed access, with the state it leaves (R907). -/
def AccessError.toFault (e : AccessError) (left : State) : Fault :=
  match e with
  | .outOfRange addr bounds => .addressOutOfRange addr bounds left
  | .readOnly addr => .readOnlyViolation addr left

/-- The state a fault leaves (R907). -/
def Fault.left : Fault → State
  | .addressOutOfRange _ _ left => left
  | .readOnlyViolation _ left => left
  | .unknownOpcode _ left => left

/-- The fault's kind (R900). -/
def Fault.kind : Fault → FaultKind
  | .addressOutOfRange .. => .addressOutOfRange
  | .readOnlyViolation .. => .readOnlyViolation
  | .unknownOpcode .. => .unknownOpcode

/-- The fault's code (R900). -/
def Fault.code (e : Fault) : Nat := e.kind.code

/-- Continue after a next state; a fault or a refusal ends the step. -/
def andThen (res : Result) (k : State → Result) : Result :=
  match res with
  | .next s => k s
  | .fault e => .fault e
  | .refused e => .refused e

/-! ## Memory -/

/-- The byte an address reads as, or why the read fails: the model's read of one byte (R209, R220). A read changes nothing
(R227). -/
def State.peek (s : State) (a : Word) : Except AccessError Byte := s.bus.read s.mem a

/-- A write to the address succeeds: it lies in RAM (R208, R210). -/
def State.writable (s : State) (a : Word) : Bool := s.bus.isRam a

/-- `MemRead(a, 1)` (R220). -/
def loadByte (s : State) (a : Word) (k : Byte → Result) : Result :=
  match s.peek a with
  | .ok v => k v
  | .error e => .fault (e.toFault s)

/-- `MemWrite(a, 1, v)` (R221). -/
def storeByte (s : State) (a : Word) (v : Byte) (k : State → Result) : Result :=
  match s.bus.write s.mem a v with
  | .ok mem => k { s with mem := mem }
  | .error e => .fault (e.toFault s)

/-- `MemRead(a, 2)`: low byte, then high byte (R222). -/
def loadWord (s : State) (a : Word) (k : Word → Result) : Result :=
  loadByte s a fun lo => loadByte s (a + 1#16) fun hi => k (pair hi lo)

/-- `MemWrite(a, 2, v)`: low byte, then high byte (R223). -/
def storeWord (s : State) (a : Word) (v : Word) (k : State → Result) : Result :=
  storeByte s a (loByte v) fun s => storeByte s (a + 1#16) (hiByte v) k

/-- `Push16(v)`: each byte after its own decrement of SP, the high byte first (R470). -/
def push16 (s : State) (v : Word) (k : State → Result) : Result :=
  let s := { s with sp := s.sp - 1#16 }
  storeByte s s.sp (hiByte v) fun s =>
    let s := { s with sp := s.sp - 1#16 }
    storeByte s s.sp (loByte v) k

/-- `Pop16()`: each byte before its own increment of SP, the low byte first (R471). -/
def pop16 (s : State) (k : Word → State → Result) : Result :=
  loadByte s s.sp fun lo =>
    let s := { s with sp := s.sp + 1#16 }
    loadByte s s.sp fun hi => k (pair hi lo) { s with sp := s.sp + 1#16 }

/-- A read-modify-write of one byte that leaves F alone (47_bit.md R770); `k` takes the byte written. -/
def modifyByte (s : State) (a : Word) (f : Byte → Byte) (k : Byte → State → Result) : Result :=
  loadByte s a fun v => storeByte s a (f v) (k (f v))

/-- A read-modify-write of one byte: F is written only after the write succeeds (43_alu8.md R571, 90_conflicts.md C16); `k` takes
the byte written. -/
def modifyFlags (s : State) (a : Word) (f : Byte → Flags → Byte × Flags) (k : Byte → State → Result) : Result :=
  loadByte s a fun v =>
    storeByte s a (f v s.flags).1 fun t => k (f v s.flags).1 (t.setFlags (f v s.flags).2)

/-! ## Free values (log 5), ports (log 7) and the cycle count -/

/-- `draw1()`: the bit, and the state with the draw taken (R9). -/
def draw1 (s : State) : Bool × State := (Config.draw1 s.draws, { s with draws := s.draws + 1 })

/-- `draw8()`: the byte, and the state with the draw taken (R9). -/
def draw8 (s : State) : Byte × State := (Config.draw8 s.draws, { s with draws := s.draws + 1 })

/-- The byte the next I/O read returns: the host's next answer, or a free value when it has given none (R850, log 7). -/
def State.ioValue (s : State) : Byte :=
  match s.ioAnswers with
  | v :: _ => v
  | [] => Config.ioRead s.draws

/-- `IoRead(port)` (R850): the value, and the state with the answer or draw taken and the event recorded. -/
def ioRead (s : State) (port : Word) : Byte × State :=
  (s.ioValue,
    { s with
      ioAnswers := s.ioAnswers.tail
      draws := if s.ioAnswers.isEmpty then s.draws + 1 else s.draws
      events := s.events ++ [.input port s.ioValue] })

/-- `IoWrite(port, v)` (R851): the event, and no other effect on the core. -/
def ioWrite (s : State) (port : Word) (v : Byte) : State :=
  { s with events := s.events ++ [.output port v] }

/-- `OUT_C0_VALUE` (00_scope.md R7): as set, or 0x00 for NMOS and 0xFF for CMOS (log 20). -/
def outC0Value (p : Params) : Byte :=
  p.outC0.getD (match p.cpuVariant with
    | .nmos => 0x00#8
    | .cmos => 0xFF#8)

/-- `cycles <- n` (R9, R970). -/
def State.tick (s : State) (n : Nat) : State := { s with cycles := n }

/-! ## The repeat of a block instruction (R505) -/

/-- After an iteration of LDIR, LDDR, CPIR, CPDR: repeat, with PC back at the ED byte and F5, F3 drawn, or end (R505). -/
def repeatBlock (again : Bool) (s : State) : State :=
  if again then
    let (f5, s) := draw1 s
    let (f3, s) := draw1 s
    ({ s with pc := s.pc - 2#16 }.setFlags { s.flags with f5 := f5, f3 := f3 }).tick 21
  else s.tick 16

/-- After an iteration of INIR, INDR, OTIR, OTDR: H and PV are drawn too (R505, R866). -/
def repeatBlockIo (again : Bool) (s : State) : State :=
  if again then
    let (h, s) := draw1 s
    let (pv, s) := draw1 s
    repeatBlock true (s.setFlags { s.flags with h := h, pv := pv })
  else s.tick 16

/-! ## Interrupts: sampling, acceptance, return -/

/-- One M1 cycle that fetches nothing: an acceptance or a halted cycle (10_state.md R112). -/
def State.countM1 (s : State) : State := { s with r := refresh s.r }

/-- The host's input of this step; an exhausted list means no request (R911, log 6). -/
def State.nextInput (s : State) : HostInput := s.inputs.headD HostInput.idle

/-- The start of a step: the input is taken, an NMI edge is latched (R910 1), the outputs of the latest step are cleared. -/
def State.beginStep (s : State) : State :=
  { s with
    inputs := s.inputs.tail
    nmiPending := s.nmiPending || s.nextInput.nmiEdge
    cycles := 0
    events := [] }

/-- What a step turns out to be (R910). -/
inductive StepKind where
  | nmi
  | interrupt (busByte : Byte)
  | haltedCycle
  | instruction
deriving DecidableEq, Repr

/-- The sampling order of R910 on a state whose NMI edge is latched: NMI, INT, halted cycle, instruction. -/
def stepKind (input : HostInput) (s : State) : StepKind :=
  if s.nmiPending && s.intBlock != .all then .nmi
  else if input.intLine && s.iff1 && s.intBlock == .none then .interrupt input.busByte
  else if s.halted then .haltedCycle
  else .instruction

/-- The entry to an acceptance, before the push: the halted state ends, one M1 cycle counts, the enables are as given
(R912, R913). -/
def State.enterInterrupt (s : State) (iff2 : Bool) : State :=
  { s with halted := false, r := refresh s.r, iff1 := false, iff2 := iff2 }

/-- Taking an interrupt, the part NMI and INT share: the entry, PC pushed, and PC at the handler's address, which `target` finds
after the push (R912, R913, R915). -/
def takeInterrupt (s : State) (iff2 : Bool) (cycles : Nat) (target : State → (Word → Result) → Result) : Result :=
  push16 (s.enterInterrupt iff2) s.pc fun s => target s fun v => .next ({ s with pc := v }.tick cycles)

/-- `AcceptNMI()` (R912): IFF2 keeps the old IFF1's copy, the latch is cleared, PC is 0x0066. -/
def acceptNmi (s : State) : Result :=
  takeInterrupt { s with nmiPending := false } s.iff2 11 fun _ k => k 0x0066#16

/-- `if ld_air == 1: PV <- draw1()` (R913). -/
def drawAirPv (s : State) : State :=
  if s.ldAir then
    let (pv, s) := draw1 s
    s.setFlags { s.flags with pv := pv }
  else s

/-- `AcceptINT(bus_byte)` (R913 to R915). In mode 0 only a restart byte is within the model (R914, U16). -/
def acceptInt (busByte : Byte) (s : State) : Result :=
  match s.im with
  | .im0 =>
    if busByte &&& 0xC7#8 = 0xC7#8 then
      takeInterrupt (drawAirPv s) false 13 fun _ k => k (zext16 (busByte &&& 0x38#8))
    else .refused (.im0BusByte busByte)
  | .im1 => takeInterrupt (drawAirPv s) false 13 fun _ k => k 0x0038#16
  | .im2 => takeInterrupt (drawAirPv s) false 19 fun s k => loadWord s (pair s.i busByte) k

/-- The return from an interrupt: `PC <- Pop16(); IFF1 <- IFF2` (R817, R818, R918). -/
def returnFromInterrupt (s : State) : Result :=
  pop16 s fun v s => .next ({ s with pc := v, iff1 := s.iff2 }.tick 14)

/-- A halted cycle (R920). -/
def haltedCycle (s : State) : State := s.countM1.tick 4

/-- The end of a step that did not fault: `int_block` and `ld_air` (30_encoding.md R300). -/
def endStep (block : IntBlock) (air : Bool) (res : Result) : Result :=
  andThen res fun s => .next { s with intBlock := block, ldAir := air }

/-! ## Reset by the host (R951) -/

/-- The draws a reset takes, one per register R952 leaves unspecified. -/
structure ResetDraws where
  a : Byte
  f : Byte
  b : Byte
  c : Byte
  d : Byte
  e : Byte
  h : Byte
  l : Byte
  altA : Byte
  altF : Byte
  altB : Byte
  altC : Byte
  altD : Byte
  altE : Byte
  altH : Byte
  altL : Byte
  ix : Word
  iy : Word
  sp : Word
  latch : Byte
deriving DecidableEq, Repr

/-- Reset (R951, R952): the architectural state in one update, whatever the draws; memory, bus and parameters stay (log 16). -/
def State.resetTo (s : State) (w : ResetDraws) : State :=
  { s with
    a := w.a, f := w.f, b := w.b, c := w.c, d := w.d, e := w.e, h := w.h, l := w.l
    altA := w.altA, altF := w.altF, altB := w.altB, altC := w.altC
    altD := w.altD, altE := w.altE, altH := w.altH, altL := w.altL
    ix := w.ix, iy := w.iy, sp := w.sp, latch := w.latch
    pc := 0x0000#16, i := 0x00#8, r := 0x00#8
    iff1 := false, iff2 := false, im := .im0
    halted := false, intBlock := .none, nmiPending := false, ldAir := false
    cycles := 0, events := [] }

end Sys2Proof.Machine
end

