-- ==== Sys2Proof/Machine/Alu16.lean ====
section
/-! DEFINITION. 16-bit arithmetic (45_alu16.md R653 to R660). -/

namespace Sys2Proof.Machine

/-- `ADD HL,rp` (R653). -/
def execAddHlRp (rp : RegPair) (s : State) : Result :=
  let out := add16 s.hl (s.pairOf rp) s.flags
  .next (((s.setHl out.1).setFlags out.2).tick 11)

/-- `ADC HL,rp` (R655). -/
def execAdcHlRp (rp : RegPair) (s : State) : Result :=
  let out := adc16 s.hl (s.pairOf rp) s.flags.c
  .next (((s.setHl out.1).setFlags out.2).tick 15)

/-- `SBC HL,rp` (R656). -/
def execSbcHlRp (rp : RegPair) (s : State) : Result :=
  let out := sbc16 s.hl (s.pairOf rp) s.flags.c
  .next (((s.setHl out.1).setFlags out.2).tick 15)

/-- `INC rp` (R657). -/
def execIncRp (rp : RegPair) (s : State) : Result :=
  .next ((s.setPair rp (s.pairOf rp + 1#16)).tick 6)

/-- `DEC rp` (R659). -/
def execDecRp (rp : RegPair) (s : State) : Result :=
  .next ((s.setPair rp (s.pairOf rp - 1#16)).tick 6)

/-- `ADD IX,rp` (R654). -/
def execAddIxRp (rp : XPair) (s : State) : Result :=
  let out := add16 s.ix (s.xPair .ix rp) s.flags
  .next (((s.setXy .ix out.1).setFlags out.2).tick 15)

/-- `INC IX` (R658). -/
def execIncIx (s : State) : Result :=
  .next ((s.setXy .ix (s.ix + 1#16)).tick 10)

/-- `DEC IX` (R660). -/
def execDecIx (s : State) : Result :=
  .next ((s.setXy .ix (s.ix - 1#16)).tick 10)

/-- `ADD IY,rp` (R654). -/
def execAddIyRp (rp : XPair) (s : State) : Result :=
  let out := add16 s.iy (s.xPair .iy rp) s.flags
  .next (((s.setXy .iy out.1).setFlags out.2).tick 15)

/-- `INC IY` (R658). -/
def execIncIy (s : State) : Result :=
  .next ((s.setXy .iy (s.iy + 1#16)).tick 10)

/-- `DEC IY` (R660). -/
def execDecIy (s : State) : Result :=
  .next ((s.setXy .iy (s.iy - 1#16)).tick 10)

end Sys2Proof.Machine
end

