-- ==== Sys2Proof/Machine/Alu8.lean ====
section
/-! DEFINITION. 8-bit arithmetic and logic (43_alu8.md R557 to R576) over the operations of Machine/Flags.lean. -/

namespace Sys2Proof.Machine

/-- An accumulator operation on an operand byte (R557, R560 to R567); CP leaves A as it is. -/
def accumulate (op : AluOp) (s : State) (v : Byte) (cycles : Nat) : Result :=
  let out := alu op s.a v s.flags
  .next (({ s with a := out.1 }.setFlags out.2).tick cycles)

/-- The accumulator operations on a byte in memory. -/
def accumulateAt (op : AluOp) (s : State) (a : Word) (cycles : Nat) : Result :=
  loadByte s a fun v => accumulate op s v cycles

/-- INC or DEC of a register (R570, R573). -/
def countReg (count : Byte → Flags → Byte × Flags) (s : State) (r : Reg8) : Result :=
  let out := count (s.reg r) s.flags
  .next (((s.setReg r out.1).setFlags out.2).tick 4)

/-- INC or DEC of an index half (R576). -/
def countHalf (count : Byte → Flags → Byte × Flags) (s : State) (x : XY) (half : Half) : Result :=
  let out := count (s.half x half) s.flags
  .next (((s.setHalf x half out.1).setFlags out.2).tick 8)

/-- `ADD A,s` (R560). -/
def execAddAS (src : Reg8) (s : State) : Result :=
  accumulate .add s (s.reg src) 4

/-- `ADD A,(HL)` (R560). -/
def execAddAAtHl (s : State) : Result :=
  accumulateAt .add s s.hl 7

/-- `ADD A,n` (R560). -/
def execAddAN (n : Byte) (s : State) : Result :=
  accumulate .add s n 7

/-- `ADD A,IXH/IXL` (R560, undocumented). -/
def execAddAIxHalf (half : Half) (s : State) : Result :=
  accumulate .add s (s.half .ix half) 8

/-- `ADD A,(IX+d)` (R560). -/
def execAddAAtIxd (d : Byte) (s : State) : Result :=
  accumulateAt .add s (indexed s .ix d) 19

/-- `ADD A,IYH/IYL` (R560, undocumented). -/
def execAddAIyHalf (half : Half) (s : State) : Result :=
  accumulate .add s (s.half .iy half) 8

/-- `ADD A,(IY+d)` (R560). -/
def execAddAAtIyd (d : Byte) (s : State) : Result :=
  accumulateAt .add s (indexed s .iy d) 19

/-- `ADC A,s` (R561). -/
def execAdcAS (src : Reg8) (s : State) : Result :=
  accumulate .adc s (s.reg src) 4

/-- `ADC A,(HL)` (R561). -/
def execAdcAAtHl (s : State) : Result :=
  accumulateAt .adc s s.hl 7

/-- `ADC A,n` (R561). -/
def execAdcAN (n : Byte) (s : State) : Result :=
  accumulate .adc s n 7

/-- `ADC A,IXH/IXL` (R561, undocumented). -/
def execAdcAIxHalf (half : Half) (s : State) : Result :=
  accumulate .adc s (s.half .ix half) 8

/-- `ADC A,(IX+d)` (R561). -/
def execAdcAAtIxd (d : Byte) (s : State) : Result :=
  accumulateAt .adc s (indexed s .ix d) 19

/-- `ADC A,IYH/IYL` (R561, undocumented). -/
def execAdcAIyHalf (half : Half) (s : State) : Result :=
  accumulate .adc s (s.half .iy half) 8

/-- `ADC A,(IY+d)` (R561). -/
def execAdcAAtIyd (d : Byte) (s : State) : Result :=
  accumulateAt .adc s (indexed s .iy d) 19

/-- `SUB s` (R562). -/
def execSubS (src : Reg8) (s : State) : Result :=
  accumulate .sub s (s.reg src) 4

/-- `SUB (HL)` (R562). -/
def execSubAtHl (s : State) : Result :=
  accumulateAt .sub s s.hl 7

/-- `SUB n` (R562). -/
def execSubN (n : Byte) (s : State) : Result :=
  accumulate .sub s n 7

/-- `SUB IXH/IXL` (R562, undocumented). -/
def execSubIxHalf (half : Half) (s : State) : Result :=
  accumulate .sub s (s.half .ix half) 8

/-- `SUB (IX+d)` (R562). -/
def execSubAtIxd (d : Byte) (s : State) : Result :=
  accumulateAt .sub s (indexed s .ix d) 19

/-- `SUB IYH/IYL` (R562, undocumented). -/
def execSubIyHalf (half : Half) (s : State) : Result :=
  accumulate .sub s (s.half .iy half) 8

/-- `SUB (IY+d)` (R562). -/
def execSubAtIyd (d : Byte) (s : State) : Result :=
  accumulateAt .sub s (indexed s .iy d) 19

/-- `SBC A,s` (R563). -/
def execSbcAS (src : Reg8) (s : State) : Result :=
  accumulate .sbc s (s.reg src) 4

/-- `SBC A,(HL)` (R563). -/
def execSbcAAtHl (s : State) : Result :=
  accumulateAt .sbc s s.hl 7

/-- `SBC A,n` (R563). -/
def execSbcAN (n : Byte) (s : State) : Result :=
  accumulate .sbc s n 7

/-- `SBC A,IXH/IXL` (R563, undocumented). -/
def execSbcAIxHalf (half : Half) (s : State) : Result :=
  accumulate .sbc s (s.half .ix half) 8

/-- `SBC A,(IX+d)` (R563). -/
def execSbcAAtIxd (d : Byte) (s : State) : Result :=
  accumulateAt .sbc s (indexed s .ix d) 19

/-- `SBC A,IYH/IYL` (R563, undocumented). -/
def execSbcAIyHalf (half : Half) (s : State) : Result :=
  accumulate .sbc s (s.half .iy half) 8

/-- `SBC A,(IY+d)` (R563). -/
def execSbcAAtIyd (d : Byte) (s : State) : Result :=
  accumulateAt .sbc s (indexed s .iy d) 19

/-- `AND s` (R564). -/
def execAndS (src : Reg8) (s : State) : Result :=
  accumulate .and s (s.reg src) 4

/-- `AND (HL)` (R564). -/
def execAndAtHl (s : State) : Result :=
  accumulateAt .and s s.hl 7

/-- `AND n` (R564). -/
def execAndN (n : Byte) (s : State) : Result :=
  accumulate .and s n 7

/-- `AND IXH/IXL` (R564, undocumented). -/
def execAndIxHalf (half : Half) (s : State) : Result :=
  accumulate .and s (s.half .ix half) 8

/-- `AND (IX+d)` (R564). -/
def execAndAtIxd (d : Byte) (s : State) : Result :=
  accumulateAt .and s (indexed s .ix d) 19

/-- `AND IYH/IYL` (R564, undocumented). -/
def execAndIyHalf (half : Half) (s : State) : Result :=
  accumulate .and s (s.half .iy half) 8

/-- `AND (IY+d)` (R564). -/
def execAndAtIyd (d : Byte) (s : State) : Result :=
  accumulateAt .and s (indexed s .iy d) 19

/-- `XOR s` (R565). -/
def execXorS (src : Reg8) (s : State) : Result :=
  accumulate .xor s (s.reg src) 4

/-- `XOR (HL)` (R565). -/
def execXorAtHl (s : State) : Result :=
  accumulateAt .xor s s.hl 7

/-- `XOR n` (R565). -/
def execXorN (n : Byte) (s : State) : Result :=
  accumulate .xor s n 7

/-- `XOR IXH/IXL` (R565, undocumented). -/
def execXorIxHalf (half : Half) (s : State) : Result :=
  accumulate .xor s (s.half .ix half) 8

/-- `XOR (IX+d)` (R565). -/
def execXorAtIxd (d : Byte) (s : State) : Result :=
  accumulateAt .xor s (indexed s .ix d) 19

/-- `XOR IYH/IYL` (R565, undocumented). -/
def execXorIyHalf (half : Half) (s : State) : Result :=
  accumulate .xor s (s.half .iy half) 8

/-- `XOR (IY+d)` (R565). -/
def execXorAtIyd (d : Byte) (s : State) : Result :=
  accumulateAt .xor s (indexed s .iy d) 19

/-- `OR s` (R566). -/
def execOrS (src : Reg8) (s : State) : Result :=
  accumulate .or s (s.reg src) 4

/-- `OR (HL)` (R566). -/
def execOrAtHl (s : State) : Result :=
  accumulateAt .or s s.hl 7

/-- `OR n` (R566). -/
def execOrN (n : Byte) (s : State) : Result :=
  accumulate .or s n 7

/-- `OR IXH/IXL` (R566, undocumented). -/
def execOrIxHalf (half : Half) (s : State) : Result :=
  accumulate .or s (s.half .ix half) 8

/-- `OR (IX+d)` (R566). -/
def execOrAtIxd (d : Byte) (s : State) : Result :=
  accumulateAt .or s (indexed s .ix d) 19

/-- `OR IYH/IYL` (R566, undocumented). -/
def execOrIyHalf (half : Half) (s : State) : Result :=
  accumulate .or s (s.half .iy half) 8

/-- `OR (IY+d)` (R566). -/
def execOrAtIyd (d : Byte) (s : State) : Result :=
  accumulateAt .or s (indexed s .iy d) 19

/-- `CP s` (R567). -/
def execCpS (src : Reg8) (s : State) : Result :=
  accumulate .cp s (s.reg src) 4

/-- `CP (HL)` (R567). -/
def execCpAtHl (s : State) : Result :=
  accumulateAt .cp s s.hl 7

/-- `CP n` (R567). -/
def execCpN (n : Byte) (s : State) : Result :=
  accumulate .cp s n 7

/-- `CP IXH/IXL` (R567, undocumented). -/
def execCpIxHalf (half : Half) (s : State) : Result :=
  accumulate .cp s (s.half .ix half) 8

/-- `CP (IX+d)` (R567). -/
def execCpAtIxd (d : Byte) (s : State) : Result :=
  accumulateAt .cp s (indexed s .ix d) 19

/-- `CP IYH/IYL` (R567, undocumented). -/
def execCpIyHalf (half : Half) (s : State) : Result :=
  accumulate .cp s (s.half .iy half) 8

/-- `CP (IY+d)` (R567). -/
def execCpAtIyd (d : Byte) (s : State) : Result :=
  accumulateAt .cp s (indexed s .iy d) 19

/-- `INC r` (R570). -/
def execIncR (r : Reg8) (s : State) : Result :=
  countReg inc8 s r

/-- `INC (HL)` (R571). -/
def execIncAtHl (s : State) : Result :=
  modifyFlags s s.hl inc8 fun _ s => .next (s.tick 11)

/-- `INC IXH/IXL` (R576, undocumented). -/
def execIncIxHalf (half : Half) (s : State) : Result :=
  countHalf inc8 s .ix half

/-- `INC (IX+d)` (R572). -/
def execIncAtIxd (d : Byte) (s : State) : Result :=
  modifyFlags s (indexed s .ix d) inc8 fun _ s => .next (s.tick 23)

/-- `INC IYH/IYL` (R576, undocumented). -/
def execIncIyHalf (half : Half) (s : State) : Result :=
  countHalf inc8 s .iy half

/-- `INC (IY+d)` (R572). -/
def execIncAtIyd (d : Byte) (s : State) : Result :=
  modifyFlags s (indexed s .iy d) inc8 fun _ s => .next (s.tick 23)

/-- `DEC r` (R573). -/
def execDecR (r : Reg8) (s : State) : Result :=
  countReg dec8 s r

/-- `DEC (HL)` (R574). -/
def execDecAtHl (s : State) : Result :=
  modifyFlags s s.hl dec8 fun _ s => .next (s.tick 11)

/-- `DEC IXH/IXL` (R576, undocumented). -/
def execDecIxHalf (half : Half) (s : State) : Result :=
  countHalf dec8 s .ix half

/-- `DEC (IX+d)` (R575). -/
def execDecAtIxd (d : Byte) (s : State) : Result :=
  modifyFlags s (indexed s .ix d) dec8 fun _ s => .next (s.tick 23)

/-- `DEC IYH/IYL` (R576, undocumented). -/
def execDecIyHalf (half : Half) (s : State) : Result :=
  countHalf dec8 s .iy half

/-- `DEC (IY+d)` (R575). -/
def execDecAtIyd (d : Byte) (s : State) : Result :=
  modifyFlags s (indexed s .iy d) dec8 fun _ s => .next (s.tick 23)

end Sys2Proof.Machine
end

