-- ==== Sys2Proof/Machine/Bit.lean ====
section
/-! DEFINITION. Bit test, reset and set (47_bit.md R750 to R772). -/

namespace Sys2Proof.Machine

/-- `BIT b,(XY+d)`: bits 5 and 3 from the high byte of the address (R762). -/
def bitTestAt (s : State) (bit : Fin 8) (a : Word) : Result :=
  loadByte s a fun v => .next ((s.setFlags (bitTest bit v (hiByte a) s.flags)).tick 20)

/-- RES or SET of a byte in memory: the write happens even where the bit does not change (R770, R771). -/
def changeBitAt (s : State) (a : Word) (change : Byte → Byte) (cycles : Nat) : Result :=
  modifyByte s a change fun _ s => .next (s.tick cycles)

/-- The copy form: the new byte also goes to a plain register, after the write (R772). -/
def changeBitCopy (s : State) (a : Word) (change : Byte → Byte) (r : Reg8) : Result :=
  modifyByte s a change fun res s => .next ((s.setReg r res).tick 23)

/-- `BIT b,r` (R750). -/
def execBitBR (bit : Fin 8) (r : Reg8) (s : State) : Result :=
  .next ((s.setFlags (bitTest bit (s.reg r) (s.reg r) s.flags)).tick 8)

/-- `BIT b,(HL)` (R761). Bits 5 and 3 of F are a draw's. -/
def execBitBAtHl (bit : Fin 8) (s : State) : Result :=
  loadByte s s.hl fun v =>
    let (xy, s) := draw8 s
    .next ((s.setFlags (bitTest bit v xy s.flags)).tick 12)

/-- `RES b,r` (R770). -/
def execResBR (bit : Fin 8) (r : Reg8) (s : State) : Result :=
  .next ((s.setReg r (resBit bit (s.reg r))).tick 8)

/-- `RES b,(HL)` (R770). -/
def execResBAtHl (bit : Fin 8) (s : State) : Result :=
  changeBitAt s s.hl (resBit bit) 15

/-- `SET b,r` (R771). -/
def execSetBR (bit : Fin 8) (r : Reg8) (s : State) : Result :=
  .next ((s.setReg r (setBit bit (s.reg r))).tick 8)

/-- `SET b,(HL)` (R771). -/
def execSetBAtHl (bit : Fin 8) (s : State) : Result :=
  changeBitAt s s.hl (setBit bit) 15

/-- `BIT b,(IX+d)` (R762). -/
def execBitBAtIxd (bit : Fin 8) (d : Byte) (s : State) : Result :=
  bitTestAt s bit (indexed s .ix d)

/-- `BIT b,(IX+d) (mirror)` (R762, undocumented). -/
def execBitBAtIxdMirror (bit : Fin 8) (d : Byte) (_z : Reg8) (s : State) : Result :=
  bitTestAt s bit (indexed s .ix d)

/-- `RES b,(IX+d)` (R770). -/
def execResBAtIxd (bit : Fin 8) (d : Byte) (s : State) : Result :=
  changeBitAt s (indexed s .ix d) (resBit bit) 23

/-- `LD r,RES b,(IX+d)` (R770, R772, undocumented). -/
def execLdRResBAtIxd (bit : Fin 8) (d : Byte) (r : Reg8) (s : State) : Result :=
  changeBitCopy s (indexed s .ix d) (resBit bit) r

/-- `SET b,(IX+d)` (R771). -/
def execSetBAtIxd (bit : Fin 8) (d : Byte) (s : State) : Result :=
  changeBitAt s (indexed s .ix d) (setBit bit) 23

/-- `LD r,SET b,(IX+d)` (R771, R772, undocumented). -/
def execLdRSetBAtIxd (bit : Fin 8) (d : Byte) (r : Reg8) (s : State) : Result :=
  changeBitCopy s (indexed s .ix d) (setBit bit) r

/-- `BIT b,(IY+d)` (R762). -/
def execBitBAtIyd (bit : Fin 8) (d : Byte) (s : State) : Result :=
  bitTestAt s bit (indexed s .iy d)

/-- `BIT b,(IY+d) (mirror)` (R762, undocumented). -/
def execBitBAtIydMirror (bit : Fin 8) (d : Byte) (_z : Reg8) (s : State) : Result :=
  bitTestAt s bit (indexed s .iy d)

/-- `RES b,(IY+d)` (R770). -/
def execResBAtIyd (bit : Fin 8) (d : Byte) (s : State) : Result :=
  changeBitAt s (indexed s .iy d) (resBit bit) 23

/-- `LD r,RES b,(IY+d)` (R770, R772, undocumented). -/
def execLdRResBAtIyd (bit : Fin 8) (d : Byte) (r : Reg8) (s : State) : Result :=
  changeBitCopy s (indexed s .iy d) (resBit bit) r

/-- `SET b,(IY+d)` (R771). -/
def execSetBAtIyd (bit : Fin 8) (d : Byte) (s : State) : Result :=
  changeBitAt s (indexed s .iy d) (setBit bit) 23

/-- `LD r,SET b,(IY+d)` (R771, R772, undocumented). -/
def execLdRSetBAtIyd (bit : Fin 8) (d : Byte) (r : Reg8) (s : State) : Result :=
  changeBitCopy s (indexed s .iy d) (setBit bit) r

end Sys2Proof.Machine
end

