-- ==== Sys2Proof/Machine/Control.lean ====
section
/-! DEFINITION. Accumulator adjust, flag and CPU control instructions (44_general_control.md R600 to R618). -/

namespace Sys2Proof.Machine

/-- `A <- Sub8(0, A, 0)` (R602). -/
def negate (s : State) : Result :=
  let out := sub8 0#8 s.a false
  .next (({ s with a := out.1 }.setFlags out.2).tick 8)

/-- `A[n] | (F_old[n] & draw1())` for one of the bits 5 and 3 (R605, R606). -/
def mixBit (accumulator flag draw : Bool) : Bool := accumulator || (flag && draw)

/-- SCF and CCF: C and H as given, N = 0, F5 and F3 mixed from A, F and a draw each (R605, R606, log 18). -/
def writeCarry (s : State) (c h : Bool) : Result :=
  let (d5, s) := draw1 s
  let (d3, s) := draw1 s
  .next ((s.setFlags
    { s.flags with
      c := c
      h := h
      n := false
      f5 := mixBit (s.a.getLsbD 5) s.flags.f5 d5
      f3 := mixBit (s.a.getLsbD 3) s.flags.f3 d3 }).tick 4)

/-- `IM <- m` (R614 to R616). -/
def selectMode (s : State) (m : InterruptMode) : Result := .next ({ s with im := m }.tick 8)

/-- The ED no-operations (R325, R618). -/
def noOperation (s : State) : Result := .next (s.tick 8)

/-- `DAA` (R600). -/
def execDaa (s : State) : Result :=
  let out := daa s.a s.flags
  .next (({ s with a := out.1 }.setFlags out.2).tick 4)

/-- `CPL` (R601). -/
def execCpl (s : State) : Result :=
  let a := ~~~s.a
  .next (({ s with a := a }.setFlags
    { s.flags with h := true, n := true, f5 := a.getLsbD 5, f3 := a.getLsbD 3 }).tick 4)

/-- `NEG` (R602). -/
def execNeg (s : State) : Result :=
  negate s

/-- `NEG (mirror)` (R602, undocumented). -/
def execNegMirror (_y : Fin 8) (s : State) : Result :=
  negate s

/-- `SCF` (R605). -/
def execScf (s : State) : Result :=
  writeCarry s true false

/-- `CCF` (R606). -/
def execCcf (s : State) : Result :=
  writeCarry s (!s.flags.c) s.flags.c

/-- `NOP` (R610). -/
def execNop (s : State) : Result :=
  .next (s.tick 4)

/-- `HALT` (R611). -/
def execHalt (s : State) : Result :=
  .next ({ s with halted := true }.tick 4)

/-- `DI` (R612). -/
def execDi (s : State) : Result :=
  .next ({ s with iff1 := false, iff2 := false }.tick 4)

/-- `EI` (R613). The step then sets int_block (`endOf`). -/
def execEi (s : State) : Result :=
  .next ({ s with iff1 := true, iff2 := true }.tick 4)

/-- `IM 0` (R614). -/
def execIm0 (s : State) : Result :=
  selectMode s .im0

/-- `IM 0 (mirror)` (R614, undocumented). -/
def execIm0Mirror (s : State) : Result :=
  selectMode s .im0

/-- `IM 1` (R615). -/
def execIm1 (s : State) : Result :=
  selectMode s .im1

/-- `IM 1 (mirror)` (R615, undocumented). -/
def execIm1Mirror (s : State) : Result :=
  selectMode s .im1

/-- `IM 2` (R616). -/
def execIm2 (s : State) : Result :=
  selectMode s .im2

/-- `IM 2 (mirror)` (R616, undocumented). -/
def execIm2Mirror (s : State) : Result :=
  selectMode s .im2

/-- `IM 0/1` (R617, undocumented). The mode is a draw in 0 and 1. -/
def execIm01 (_y : Bool) (s : State) : Result :=
  let (b, s) := draw1 s
  selectMode s (if b then .im1 else .im0)

/-- `NOP (ED 77/7F)` (R618, undocumented). -/
def execNopEd7 (_y : Bool) (s : State) : Result :=
  noOperation s

/-- `NOP (ED undefined)` (R618, undocumented). -/
def execNopEd (_op : Byte) (s : State) : Result :=
  noOperation s

end Sys2Proof.Machine
end

