-- ==== Sys2Proof/Machine/ExchangeBlock.lean ====
section
/-! DEFINITION. Exchanges, block transfer and block search (42_exchange_block.md R500 to R513). -/

namespace Sys2Proof.Machine

/-- The exchange of a 16-bit register with the top of the stack: two reads, then the high byte's write, the low byte's write,
and the register last (R503). `keep` writes the register. -/
def exchangeTop (s : State) (v : Word) (cycles : Nat) (keep : Word → State → State) : Result :=
  loadByte s s.sp fun lo => loadByte s (s.sp + 1#16) fun hi =>
    storeByte s (s.sp + 1#16) (hiByte v) fun s =>
      storeByte s s.sp (loByte v) fun s => .next ((keep (pair hi lo) s).tick cycles)

/-- One block load: the byte at HL to DE, the pointers moved, BC counted down (R506, R508). -/
def blockLoad (dir : Dir) (s : State) (k : State → Result) : Result :=
  loadByte s s.hl fun v => storeByte s s.de v fun s =>
    let s := ((s.setHl (dir.move s.hl)).setDe (dir.move s.de)).setBc (s.bc - 1#16)
    k (s.setFlags (blockLoadFlags v s.a s.bc s.flags))

/-- One block compare: A against the byte at HL, HL moved, BC counted down, A unchanged (R510, R512). -/
def blockCompare (dir : Dir) (s : State) (k : State → Result) : Result :=
  loadByte s s.hl fun v =>
    let s := (s.setHl (dir.move s.hl)).setBc (s.bc - 1#16)
    k (s.setFlags (blockCompareFlags s.a v s.bc s.flags))

/-- The repeat condition of LDIR and LDDR: `BC != 0` (R507, R509). -/
def loadRepeats (s : State) : Bool := s.bc != 0#16

/-- The repeat condition of CPIR and CPDR: `BC != 0 and r != 0`; Z holds r = 0 (R511, R513). -/
def compareRepeats (s : State) : Bool := s.bc != 0#16 && !s.flags.z

/-- `EX AF,AF'` (R500). -/
def execExAfAf (s : State) : Result :=
  .next ({ s with a := s.altA, f := s.altF, altA := s.a, altF := s.f }.tick 4)

/-- `EX DE,HL` (R501). -/
def execExDeHl (s : State) : Result :=
  .next ({ s with d := s.h, e := s.l, h := s.d, l := s.e }.tick 4)

/-- `EXX` (R502). -/
def execExx (s : State) : Result :=
  .next ({ s with
    b := s.altB, c := s.altC, d := s.altD, e := s.altE, h := s.altH, l := s.altL
    altB := s.b, altC := s.c, altD := s.d, altE := s.e, altH := s.h, altL := s.l }.tick 4)

/-- `EX (SP),HL` (R503). -/
def execExAtSpHl (s : State) : Result :=
  exchangeTop s s.hl 19 fun v s => s.setHl v

/-- `EX (SP),IX` (R504). -/
def execExAtSpIx (s : State) : Result :=
  exchangeTop s s.ix 23 fun v s => s.setXy .ix v

/-- `EX (SP),IY` (R504). -/
def execExAtSpIy (s : State) : Result :=
  exchangeTop s s.iy 23 fun v s => s.setXy .iy v

/-- `LDI` (R506). -/
def execLdi (s : State) : Result :=
  blockLoad .up s fun s => .next (s.tick 16)

/-- `LDD` (R508). -/
def execLdd (s : State) : Result :=
  blockLoad .down s fun s => .next (s.tick 16)

/-- `LDIR` (R507). -/
def execLdir (s : State) : Result :=
  blockLoad .up s fun s => .next (repeatBlock (loadRepeats s) s)

/-- `LDDR` (R509). -/
def execLddr (s : State) : Result :=
  blockLoad .down s fun s => .next (repeatBlock (loadRepeats s) s)

/-- `CPI` (R510). -/
def execCpi (s : State) : Result :=
  blockCompare .up s fun s => .next (s.tick 16)

/-- `CPD` (R512). -/
def execCpd (s : State) : Result :=
  blockCompare .down s fun s => .next (s.tick 16)

/-- `CPIR` (R511). -/
def execCpir (s : State) : Result :=
  blockCompare .up s fun s => .next (repeatBlock (compareRepeats s) s)

/-- `CPDR` (R513). -/
def execCpdr (s : State) : Result :=
  blockCompare .down s fun s => .next (repeatBlock (compareRepeats s) s)

end Sys2Proof.Machine
end

