-- ==== Sys2Proof/WellFormed.lean ====
section
/-! DEFINITION. Well-formed instructions: the operand values each row of spec/opcode_table.json admits beyond its types. -/

namespace Sys2Proof

/-- XYH or XYL (R322). -/
def RegX.isHalf : RegX → Bool
  | .xh => true
  | .xl => true
  | .b => false
  | .c => false
  | .d => false
  | .e => false
  | .a => false

/-- H or L: the codes 4 and 5 a DD or FD prefix turns into XYH and XYL (R321, R322). -/
def Reg8.isHl : Reg8 → Bool
  | .h => true
  | .l => true
  | .b => false
  | .c => false
  | .d => false
  | .e => false
  | .a => false

/-- The second bytes of the row NOP (ED undefined): rows 0x00-0x3F, 0x80-0x9F, 0xC0-0xFF and the cells of 0xA0-0xBF
that are no block instruction (R325). -/
def edUndefined (op : Byte) : Bool :=
  op.toNat / 64 == 0 || op.toNat / 64 == 3
    || (op.toNat / 64 == 2 && !(4 ≤ op.toNat / 8 % 8 && op.toNat % 8 ≤ 3))

/-- The unprefixed instructions a DD or FD before them does not affect (R321, R323). -/
def Instr.unaffected : Instr → Bool
  | .ldRpNn rp _ => rp != .hl
  | .incRp rp => rp != .hl
  | .decRp rp => rp != .hl
  | .incR r => !r.isHl
  | .decR r => !r.isHl
  | .ldRN r _ => !r.isHl
  | .ldRS r src => !r.isHl && !src.isHl
  | .addAS src => !src.isHl
  | .adcAS src => !src.isHl
  | .subS src => !src.isHl
  | .sbcAS src => !src.isHl
  | .andS src => !src.isHl
  | .xorS src => !src.isHl
  | .orS src => !src.isHl
  | .cpS src => !src.isHl
  | .popRp2 rp => rp != .hl
  | .pushRp2 rp => rp != .hl
  | .nop | .ldAtBcA | .ldAtDeA | .ldAtNnA .. | .ldAAtBc | .ldAAtDe | .ldAAtNn .. | .rlca | .rrca | .rla | .rra | .daa
  | .cpl | .scf | .ccf | .exAfAf | .ret | .exx | .exDeHl | .di | .ei | .halt | .djnzE .. | .jrE .. | .jrCcE ..
  | .addAN .. | .adcAN .. | .subN .. | .sbcAN .. | .andN .. | .xorN .. | .orN .. | .cpN .. | .retCc .. | .jpCcNn ..
  | .jpNn .. | .outAtNA .. | .inAAtN .. | .callCcNn .. | .callNn .. | .rstP .. => true
  | .addHlRp .. | .ldAtNnHl .. | .ldHlAtNn .. | .incAtHl | .decAtHl | .ldAtHlN .. | .jpHl | .ldSpHl | .ldRAtHl ..
  | .ldAtHlS .. | .addAAtHl | .adcAAtHl | .subAtHl | .sbcAAtHl | .andAtHl | .xorAtHl | .orAtHl | .cpAtHl | .exAtSpHl
  | .prefixCb | .prefixEd | .prefixDd | .prefixFd | .rlcR .. | .rlcAtHl | .rrcR .. | .rrcAtHl | .rlR .. | .rlAtHl
  | .rrR .. | .rrAtHl | .slaR .. | .slaAtHl | .sraR .. | .sraAtHl | .sllR .. | .sllAtHl | .srlR .. | .srlAtHl
  | .bitBR .. | .bitBAtHl .. | .resBR .. | .resBAtHl .. | .setBR .. | .setBAtHl .. | .inRAtC .. | .inFAtC
  | .outAtCR .. | .outAtC0 | .sbcHlRp .. | .adcHlRp .. | .ldAtNnRp .. | .ldAtNnHlEd .. | .ldRpAtNn ..
  | .ldHlAtNnEd .. | .neg | .negMirror .. | .retn | .retnMirror .. | .reti | .im0 | .im0Mirror | .im1 | .im1Mirror
  | .im2 | .im2Mirror | .im01 .. | .ldIA | .ldRA | .ldAI | .ldAR | .rrd | .rld | .nopEd7 .. | .ldi | .cpi | .ini
  | .outi | .ldd | .cpd | .ind | .outd | .ldir | .cpir | .inir | .otir | .lddr | .cpdr | .indr | .otdr | .nopEd ..
  | .addIxRp .. | .ldIxNn .. | .ldAtNnIx .. | .ldIxAtNn .. | .incIx | .decIx | .incIxHalf .. | .decIxHalf ..
  | .ldIxHalfN .. | .incAtIxd .. | .decAtIxd .. | .ldAtIxdN .. | .ldRAtIxd .. | .ldAtIxdS .. | .ldRSIxHalf ..
  | .addAIxHalf .. | .addAAtIxd .. | .adcAIxHalf .. | .adcAAtIxd .. | .subIxHalf .. | .subAtIxd .. | .sbcAIxHalf ..
  | .sbcAAtIxd .. | .andIxHalf .. | .andAtIxd .. | .xorIxHalf .. | .xorAtIxd .. | .orIxHalf .. | .orAtIxd ..
  | .cpIxHalf .. | .cpAtIxd .. | .popIx | .exAtSpIx | .pushIx | .jpIx | .ldSpIx | .prefixDdCb | .ignoredDd ..
  | .ddUnprefixed .. | .addIyRp .. | .ldIyNn .. | .ldAtNnIy .. | .ldIyAtNn .. | .incIy | .decIy | .incIyHalf ..
  | .decIyHalf .. | .ldIyHalfN .. | .incAtIyd .. | .decAtIyd .. | .ldAtIydN .. | .ldRAtIyd .. | .ldAtIydS ..
  | .ldRSIyHalf .. | .addAIyHalf .. | .addAAtIyd .. | .adcAIyHalf .. | .adcAAtIyd .. | .subIyHalf .. | .subAtIyd ..
  | .sbcAIyHalf .. | .sbcAAtIyd .. | .andIyHalf .. | .andAtIyd .. | .xorIyHalf .. | .xorAtIyd .. | .orIyHalf ..
  | .orAtIyd .. | .cpIyHalf .. | .cpAtIyd .. | .popIy | .exAtSpIy | .pushIy | .jpIy | .ldSpIy | .prefixFdCb
  | .ignoredFd .. | .fdUnprefixed .. | .rlcAtIxd .. | .ldRRlcAtIxd .. | .rrcAtIxd .. | .ldRRrcAtIxd .. | .rlAtIxd ..
  | .ldRRlAtIxd .. | .rrAtIxd .. | .ldRRrAtIxd .. | .slaAtIxd .. | .ldRSlaAtIxd .. | .sraAtIxd .. | .ldRSraAtIxd ..
  | .sllAtIxd .. | .ldRSllAtIxd .. | .srlAtIxd .. | .ldRSrlAtIxd .. | .bitBAtIxd .. | .bitBAtIxdMirror ..
  | .resBAtIxd .. | .ldRResBAtIxd .. | .setBAtIxd .. | .ldRSetBAtIxd .. | .rlcAtIyd .. | .ldRRlcAtIyd ..
  | .rrcAtIyd .. | .ldRRrcAtIyd .. | .rlAtIyd .. | .ldRRlAtIyd .. | .rrAtIyd .. | .ldRRrAtIyd .. | .slaAtIyd ..
  | .ldRSlaAtIyd .. | .sraAtIyd .. | .ldRSraAtIyd .. | .sllAtIyd .. | .ldRSllAtIyd .. | .srlAtIyd ..
  | .ldRSrlAtIyd .. | .bitBAtIyd .. | .bitBAtIydMirror .. | .resBAtIyd .. | .ldRResBAtIyd .. | .setBAtIyd ..
  | .ldRSetBAtIyd .. => false

/-- The operands the rows admit: `LD (nn),rp` and `LD rp,(nn)` of the ED table leave rp = HL to rows of their own (R453, R456), the
mirrors of NEG and RETN leave out the documented cells (R602, R817, R818), an XYH/XYL load names a half (R418), and a
prefixed unprefixed instruction is one the prefix does not affect (R323). -/
def Instr.wf : Instr → Bool
  | .ldAtNnRp _ rp => rp != .hl
  | .ldRpAtNn rp _ => rp != .hl
  | .negMirror y => y != 0
  | .retnMirror y => y != 0 && y != 1
  | .nopEd op => edUndefined op
  | .ldRSIxHalf r src => r.isHalf || src.isHalf
  | .ldRSIyHalf r src => r.isHalf || src.isHalf
  | .ddUnprefixed inner => inner.unaffected
  | .fdUnprefixed inner => inner.unaffected
  | .nop | .ldRpNn .. | .addHlRp .. | .ldAtBcA | .ldAtDeA | .ldAtNnHl .. | .ldAtNnA .. | .ldAAtBc | .ldAAtDe
  | .ldHlAtNn .. | .ldAAtNn .. | .incRp .. | .decRp .. | .incR .. | .incAtHl | .decR .. | .decAtHl | .ldRN ..
  | .ldAtHlN .. | .rlca | .rrca | .rla | .rra | .daa | .cpl | .scf | .ccf | .exAfAf | .ret | .exx | .jpHl | .ldSpHl
  | .exDeHl | .di | .ei | .halt | .djnzE .. | .jrE .. | .jrCcE .. | .ldRS .. | .ldRAtHl .. | .ldAtHlS .. | .addAS ..
  | .addAAtHl | .addAN .. | .adcAS .. | .adcAAtHl | .adcAN .. | .subS .. | .subAtHl | .subN .. | .sbcAS ..
  | .sbcAAtHl | .sbcAN .. | .andS .. | .andAtHl | .andN .. | .xorS .. | .xorAtHl | .xorN .. | .orS .. | .orAtHl
  | .orN .. | .cpS .. | .cpAtHl | .cpN .. | .retCc .. | .popRp2 .. | .jpCcNn .. | .jpNn .. | .outAtNA .. | .inAAtN ..
  | .exAtSpHl | .callCcNn .. | .pushRp2 .. | .callNn .. | .rstP .. | .prefixCb | .prefixEd | .prefixDd | .prefixFd
  | .rlcR .. | .rlcAtHl | .rrcR .. | .rrcAtHl | .rlR .. | .rlAtHl | .rrR .. | .rrAtHl | .slaR .. | .slaAtHl
  | .sraR .. | .sraAtHl | .sllR .. | .sllAtHl | .srlR .. | .srlAtHl | .bitBR .. | .bitBAtHl .. | .resBR ..
  | .resBAtHl .. | .setBR .. | .setBAtHl .. | .inRAtC .. | .inFAtC | .outAtCR .. | .outAtC0 | .sbcHlRp ..
  | .adcHlRp .. | .ldAtNnHlEd .. | .ldHlAtNnEd .. | .neg | .retn | .reti | .im0 | .im0Mirror | .im1 | .im1Mirror
  | .im2 | .im2Mirror | .im01 .. | .ldIA | .ldRA | .ldAI | .ldAR | .rrd | .rld | .nopEd7 .. | .ldi | .cpi | .ini
  | .outi | .ldd | .cpd | .ind | .outd | .ldir | .cpir | .inir | .otir | .lddr | .cpdr | .indr | .otdr | .addIxRp ..
  | .ldIxNn .. | .ldAtNnIx .. | .ldIxAtNn .. | .incIx | .decIx | .incIxHalf .. | .decIxHalf .. | .ldIxHalfN ..
  | .incAtIxd .. | .decAtIxd .. | .ldAtIxdN .. | .ldRAtIxd .. | .ldAtIxdS .. | .addAIxHalf .. | .addAAtIxd ..
  | .adcAIxHalf .. | .adcAAtIxd .. | .subIxHalf .. | .subAtIxd .. | .sbcAIxHalf .. | .sbcAAtIxd .. | .andIxHalf ..
  | .andAtIxd .. | .xorIxHalf .. | .xorAtIxd .. | .orIxHalf .. | .orAtIxd .. | .cpIxHalf .. | .cpAtIxd .. | .popIx
  | .exAtSpIx | .pushIx | .jpIx | .ldSpIx | .prefixDdCb | .ignoredDd .. | .addIyRp .. | .ldIyNn .. | .ldAtNnIy ..
  | .ldIyAtNn .. | .incIy | .decIy | .incIyHalf .. | .decIyHalf .. | .ldIyHalfN .. | .incAtIyd .. | .decAtIyd ..
  | .ldAtIydN .. | .ldRAtIyd .. | .ldAtIydS .. | .addAIyHalf .. | .addAAtIyd .. | .adcAIyHalf .. | .adcAAtIyd ..
  | .subIyHalf .. | .subAtIyd .. | .sbcAIyHalf .. | .sbcAAtIyd .. | .andIyHalf .. | .andAtIyd .. | .xorIyHalf ..
  | .xorAtIyd .. | .orIyHalf .. | .orAtIyd .. | .cpIyHalf .. | .cpAtIyd .. | .popIy | .exAtSpIy | .pushIy | .jpIy
  | .ldSpIy | .prefixFdCb | .ignoredFd .. | .rlcAtIxd .. | .ldRRlcAtIxd .. | .rrcAtIxd .. | .ldRRrcAtIxd ..
  | .rlAtIxd .. | .ldRRlAtIxd .. | .rrAtIxd .. | .ldRRrAtIxd .. | .slaAtIxd .. | .ldRSlaAtIxd .. | .sraAtIxd ..
  | .ldRSraAtIxd .. | .sllAtIxd .. | .ldRSllAtIxd .. | .srlAtIxd .. | .ldRSrlAtIxd .. | .bitBAtIxd ..
  | .bitBAtIxdMirror .. | .resBAtIxd .. | .ldRResBAtIxd .. | .setBAtIxd .. | .ldRSetBAtIxd .. | .rlcAtIyd ..
  | .ldRRlcAtIyd .. | .rrcAtIyd .. | .ldRRrcAtIyd .. | .rlAtIyd .. | .ldRRlAtIyd .. | .rrAtIyd .. | .ldRRrAtIyd ..
  | .slaAtIyd .. | .ldRSlaAtIyd .. | .sraAtIyd .. | .ldRSraAtIyd .. | .sllAtIyd .. | .ldRSllAtIyd .. | .srlAtIyd ..
  | .ldRSrlAtIyd .. | .bitBAtIyd .. | .bitBAtIydMirror .. | .resBAtIyd .. | .ldRResBAtIyd .. | .setBAtIyd ..
  | .ldRSetBAtIyd .. => true

/-- The rows of format P: a prefix read so far, which selects a table and is no instruction by itself (R302, R312). -/
def Instr.isPrefixRow : Instr → Bool
  | .prefixCb | .prefixEd | .prefixDd | .prefixFd | .prefixDdCb | .prefixFdCb => true
  | .nop | .ldRpNn .. | .addHlRp .. | .ldAtBcA | .ldAtDeA | .ldAtNnHl .. | .ldAtNnA .. | .ldAAtBc | .ldAAtDe
  | .ldHlAtNn .. | .ldAAtNn .. | .incRp .. | .decRp .. | .incR .. | .incAtHl | .decR .. | .decAtHl | .ldRN ..
  | .ldAtHlN .. | .rlca | .rrca | .rla | .rra | .daa | .cpl | .scf | .ccf | .exAfAf | .ret | .exx | .jpHl | .ldSpHl
  | .exDeHl | .di | .ei | .halt | .djnzE .. | .jrE .. | .jrCcE .. | .ldRS .. | .ldRAtHl .. | .ldAtHlS .. | .addAS ..
  | .addAAtHl | .addAN .. | .adcAS .. | .adcAAtHl | .adcAN .. | .subS .. | .subAtHl | .subN .. | .sbcAS ..
  | .sbcAAtHl | .sbcAN .. | .andS .. | .andAtHl | .andN .. | .xorS .. | .xorAtHl | .xorN .. | .orS .. | .orAtHl
  | .orN .. | .cpS .. | .cpAtHl | .cpN .. | .retCc .. | .popRp2 .. | .jpCcNn .. | .jpNn .. | .outAtNA .. | .inAAtN ..
  | .exAtSpHl | .callCcNn .. | .pushRp2 .. | .callNn .. | .rstP .. | .rlcR .. | .rlcAtHl | .rrcR .. | .rrcAtHl
  | .rlR .. | .rlAtHl | .rrR .. | .rrAtHl | .slaR .. | .slaAtHl | .sraR .. | .sraAtHl | .sllR .. | .sllAtHl
  | .srlR .. | .srlAtHl | .bitBR .. | .bitBAtHl .. | .resBR .. | .resBAtHl .. | .setBR .. | .setBAtHl .. | .inRAtC ..
  | .inFAtC | .outAtCR .. | .outAtC0 | .sbcHlRp .. | .adcHlRp .. | .ldAtNnRp .. | .ldAtNnHlEd .. | .ldRpAtNn ..
  | .ldHlAtNnEd .. | .neg | .negMirror .. | .retn | .retnMirror .. | .reti | .im0 | .im0Mirror | .im1 | .im1Mirror
  | .im2 | .im2Mirror | .im01 .. | .ldIA | .ldRA | .ldAI | .ldAR | .rrd | .rld | .nopEd7 .. | .ldi | .cpi | .ini
  | .outi | .ldd | .cpd | .ind | .outd | .ldir | .cpir | .inir | .otir | .lddr | .cpdr | .indr | .otdr | .nopEd ..
  | .addIxRp .. | .ldIxNn .. | .ldAtNnIx .. | .ldIxAtNn .. | .incIx | .decIx | .incIxHalf .. | .decIxHalf ..
  | .ldIxHalfN .. | .incAtIxd .. | .decAtIxd .. | .ldAtIxdN .. | .ldRAtIxd .. | .ldAtIxdS .. | .ldRSIxHalf ..
  | .addAIxHalf .. | .addAAtIxd .. | .adcAIxHalf .. | .adcAAtIxd .. | .subIxHalf .. | .subAtIxd .. | .sbcAIxHalf ..
  | .sbcAAtIxd .. | .andIxHalf .. | .andAtIxd .. | .xorIxHalf .. | .xorAtIxd .. | .orIxHalf .. | .orAtIxd ..
  | .cpIxHalf .. | .cpAtIxd .. | .popIx | .exAtSpIx | .pushIx | .jpIx | .ldSpIx | .ignoredDd .. | .ddUnprefixed ..
  | .addIyRp .. | .ldIyNn .. | .ldAtNnIy .. | .ldIyAtNn .. | .incIy | .decIy | .incIyHalf .. | .decIyHalf ..
  | .ldIyHalfN .. | .incAtIyd .. | .decAtIyd .. | .ldAtIydN .. | .ldRAtIyd .. | .ldAtIydS .. | .ldRSIyHalf ..
  | .addAIyHalf .. | .addAAtIyd .. | .adcAIyHalf .. | .adcAAtIyd .. | .subIyHalf .. | .subAtIyd .. | .sbcAIyHalf ..
  | .sbcAAtIyd .. | .andIyHalf .. | .andAtIyd .. | .xorIyHalf .. | .xorAtIyd .. | .orIyHalf .. | .orAtIyd ..
  | .cpIyHalf .. | .cpAtIyd .. | .popIy | .exAtSpIy | .pushIy | .jpIy | .ldSpIy | .ignoredFd .. | .fdUnprefixed ..
  | .rlcAtIxd .. | .ldRRlcAtIxd .. | .rrcAtIxd .. | .ldRRrcAtIxd .. | .rlAtIxd .. | .ldRRlAtIxd .. | .rrAtIxd ..
  | .ldRRrAtIxd .. | .slaAtIxd .. | .ldRSlaAtIxd .. | .sraAtIxd .. | .ldRSraAtIxd .. | .sllAtIxd .. | .ldRSllAtIxd ..
  | .srlAtIxd .. | .ldRSrlAtIxd .. | .bitBAtIxd .. | .bitBAtIxdMirror .. | .resBAtIxd .. | .ldRResBAtIxd ..
  | .setBAtIxd .. | .ldRSetBAtIxd .. | .rlcAtIyd .. | .ldRRlcAtIyd .. | .rrcAtIyd .. | .ldRRrcAtIyd .. | .rlAtIyd ..
  | .ldRRlAtIyd .. | .rrAtIyd .. | .ldRRrAtIyd .. | .slaAtIyd .. | .ldRSlaAtIyd .. | .sraAtIyd .. | .ldRSraAtIyd ..
  | .sllAtIyd .. | .ldRSllAtIyd .. | .srlAtIyd .. | .ldRSrlAtIyd .. | .bitBAtIyd .. | .bitBAtIydMirror ..
  | .resBAtIyd .. | .ldRResBAtIyd .. | .setBAtIyd .. | .ldRSetBAtIyd .. => false

end Sys2Proof
end

