-- ==== Sys2Proof/Decode.lean ====
section
/-! DEFINITION. The decoder (30_encoding.md R302, R307, R310 to R327), total on any list of bytes, and after it the encoder
written from the same tables. A list that ends inside an instruction is rejected by name; every complete one decodes. -/

namespace Sys2Proof

/-- Why a list of bytes is no instruction yet: it is empty, or it ends before the instruction does. There is no illegal
encoding (R327). -/
inductive DecodeError where
  | noBytes
  | truncated
deriving DecidableEq, Repr

/-- An instruction and its length in bytes (R307), or the name of what is missing. -/
abbrev Decoded := Except DecodeError (Instr × Nat)

/-! ## Fields (R310, R311, R315, R317) -/

/-- `x = op[7:6]`. -/
def opX (op : Byte) : Nat := op.toNat / 64
/-- `y = op[5:3]`. -/
def opY (op : Byte) : Nat := op.toNat / 8 % 8
/-- `z = op[2:0]`. -/
def opZ (op : Byte) : Nat := op.toNat % 8

/-- Register codes; code 6 names a memory operand and no register (R310). -/
def Reg8.ofCode : Nat → Option Reg8
  | 0 => some .b
  | 1 => some .c
  | 2 => some .d
  | 3 => some .e
  | 4 => some .h
  | 5 => some .l
  | 6 => none
  | _ => some .a

/-- Register codes under a DD or FD prefix (R322). -/
def RegX.ofCode : Nat → Option RegX
  | 0 => some .b
  | 1 => some .c
  | 2 => some .d
  | 3 => some .e
  | 4 => some .xh
  | 5 => some .xl
  | 6 => none
  | _ => some .a

/-- `rp` (R310). -/
def RegPair.ofCode : Nat → RegPair
  | 0 => .bc
  | 1 => .de
  | 2 => .hl
  | _ => .sp

/-- `rp` under a DD or FD prefix (R310). -/
def XPair.ofCode : Nat → XPair
  | 0 => .bc
  | 1 => .de
  | 2 => .xy
  | _ => .sp

/-- `rp2` (R310). -/
def StackPair.ofCode : Nat → StackPair
  | 0 => .bc
  | 1 => .de
  | 2 => .hl
  | _ => .af

/-- `cc` (10_state.md R110). -/
def Cond.ofCode : Nat → Cond
  | 0 => .nz
  | 1 => .z
  | 2 => .nc
  | 3 => .c
  | 4 => .po
  | 5 => .pe
  | 6 => .p
  | _ => .m

/-- `k` of `JR cc,e` (R311). -/
def RelCond.ofCode : Nat → RelCond
  | 0 => .nz
  | 1 => .z
  | 2 => .nc
  | _ => .c

/-- y = 0 names the high half, y = 1 the low half (R310). -/
def Half.ofCode : Nat → Half
  | 0 => .high
  | _ => .low

/-- A 3-bit field: bit number, restart index, mirror field (R310). -/
def field3 (n : Nat) : Fin 8 := Fin.ofNat 8 n

/-- The second bytes that make a DD or FD an ignored prefix (R324). -/
def ChainByte.ofByte (b : Byte) : Option ChainByte :=
  if b = 0xDD#8 then some .dd else if b = 0xED#8 then some .ed else if b = 0xFD#8 then some .fd else none

/-- One of two constructors of the same shape: the DD row for IX, the FD row for IY (R11, R320). -/
def XY.pick {α : Type} (x : XY) (forIx forIy : α) : α :=
  match x with
  | .ix => forIx
  | .iy => forIy

/-! ## Operand bytes (R304 to R306, R312, R313) -/

/-- No operand byte. -/
def plain (len : Nat) (i : Instr) : Decoded := .ok (i, len)

/-- One operand byte: an immediate n or a displacement. -/
def withByte (len : Nat) (bs : List Byte) (f : Byte → Instr) : Decoded :=
  match bs with
  | n :: _ => .ok (f n, len)
  | [] => .error .truncated

/-- Two operand bytes in order: a displacement and an immediate. -/
def withTwo (len : Nat) (bs : List Byte) (f : Byte → Byte → Instr) : Decoded :=
  match bs with
  | d :: n :: _ => .ok (f d n, len)
  | _ => .error .truncated

/-- A 16-bit operand, low byte first (R305). -/
def withWord (len : Nat) (bs : List Byte) (f : Word → Instr) : Decoded :=
  withTwo len bs fun lo hi => f (hi ++ lo)

/-! ## The unprefixed table (R315, R316) -/

/-- The ALU rows with a register or (HL) operand, by operation code y (R310, R557). -/
def decodeAlu (y : Nat) : Option Reg8 → Instr
  | some r =>
    match y with
    | 0 => .addAS r
    | 1 => .adcAS r
    | 2 => .subS r
    | 3 => .sbcAS r
    | 4 => .andS r
    | 5 => .xorS r
    | 6 => .orS r
    | _ => .cpS r
  | none =>
    match y with
    | 0 => .addAAtHl
    | 1 => .adcAAtHl
    | 2 => .subAtHl
    | 3 => .sbcAAtHl
    | 4 => .andAtHl
    | 5 => .xorAtHl
    | 6 => .orAtHl
    | _ => .cpAtHl

/-- The ALU rows with an immediate operand. -/
def aluImmediate (y : Nat) (n : Byte) : Instr :=
  match y with
  | 0 => .addAN n
  | 1 => .adcAN n
  | 2 => .subN n
  | 3 => .sbcAN n
  | 4 => .andN n
  | 5 => .xorN n
  | 6 => .orN n
  | _ => .cpN n

/-- x = 0 of the unprefixed table. -/
def decodeBase0 (y z : Nat) (bs : List Byte) : Decoded :=
  match z with
  | 0 =>
    match y with
    | 0 => plain 1 .nop
    | 1 => plain 1 .exAfAf
    | 2 => withByte 2 bs .djnzE
    | 3 => withByte 2 bs .jrE
    | k => withByte 2 bs (.jrCcE (RelCond.ofCode (k - 4)))
  | 1 =>
    if y % 2 = 0 then withWord 3 bs (.ldRpNn (RegPair.ofCode (y / 2))) else plain 1 (.addHlRp (RegPair.ofCode (y / 2)))
  | 2 =>
    match y with
    | 0 => plain 1 .ldAtBcA
    | 1 => plain 1 .ldAAtBc
    | 2 => plain 1 .ldAtDeA
    | 3 => plain 1 .ldAAtDe
    | 4 => withWord 3 bs .ldAtNnHl
    | 5 => withWord 3 bs .ldHlAtNn
    | 6 => withWord 3 bs .ldAtNnA
    | _ => withWord 3 bs .ldAAtNn
  | 3 => plain 1 (if y % 2 = 0 then .incRp (RegPair.ofCode (y / 2)) else .decRp (RegPair.ofCode (y / 2)))
  | 4 =>
    match Reg8.ofCode y with
    | some r => plain 1 (.incR r)
    | none => plain 1 .incAtHl
  | 5 =>
    match Reg8.ofCode y with
    | some r => plain 1 (.decR r)
    | none => plain 1 .decAtHl
  | 6 =>
    match Reg8.ofCode y with
    | some r => withByte 2 bs (.ldRN r)
    | none => withByte 2 bs .ldAtHlN
  | _ =>
    match y with
    | 0 => plain 1 .rlca
    | 1 => plain 1 .rrca
    | 2 => plain 1 .rla
    | 3 => plain 1 .rra
    | 4 => plain 1 .daa
    | 5 => plain 1 .cpl
    | 6 => plain 1 .scf
    | _ => plain 1 .ccf

/-- x = 1 of the unprefixed table: loads, with HALT in the cell of `LD (HL),(HL)`. -/
def decodeBase1 (y z : Nat) : Instr :=
  match Reg8.ofCode y, Reg8.ofCode z with
  | some r, some src => .ldRS r src
  | some r, none => .ldRAtHl r
  | none, some src => .ldAtHlS src
  | none, none => .halt

/-- x = 3 of the unprefixed table, less the four prefix bytes (`decode` takes those first). -/
def decodeBase3 (y z : Nat) (bs : List Byte) : Decoded :=
  match z with
  | 0 => plain 1 (.retCc (Cond.ofCode y))
  | 1 =>
    match y with
    | 1 => plain 1 .ret
    | 3 => plain 1 .exx
    | 5 => plain 1 .jpHl
    | 7 => plain 1 .ldSpHl
    | q => plain 1 (.popRp2 (StackPair.ofCode (q / 2)))
  | 2 => withWord 3 bs (.jpCcNn (Cond.ofCode y))
  | 3 =>
    match y with
    | 0 => withWord 3 bs .jpNn
    | 1 => plain 1 .prefixCb
    | 2 => withByte 2 bs .outAtNA
    | 3 => withByte 2 bs .inAAtN
    | 4 => plain 1 .exAtSpHl
    | 5 => plain 1 .exDeHl
    | 6 => plain 1 .di
    | _ => plain 1 .ei
  | 4 => withWord 3 bs (.callCcNn (Cond.ofCode y))
  | 5 =>
    match y with
    | 1 => withWord 3 bs .callNn
    | 3 => plain 1 .prefixDd
    | 5 => plain 1 .prefixEd
    | 7 => plain 1 .prefixFd
    | q => plain 1 (.pushRp2 (StackPair.ofCode (q / 2)))
  | 6 => withByte 2 bs (aluImmediate y)
  | _ => plain 1 (.rstP (field3 y))

/-- The unprefixed entry `op`, `bs` being the bytes after it (R315). -/
def decodeBase (op : Byte) (bs : List Byte) : Decoded :=
  match opX op with
  | 0 => decodeBase0 (opY op) (opZ op) bs
  | 1 => plain 1 (decodeBase1 (opY op) (opZ op))
  | 2 => plain 1 (decodeAlu (opY op) (Reg8.ofCode (opZ op)))
  | _ => decodeBase3 (opY op) (opZ op) bs

/-! ## The CB table (R317) -/

/-- The rotate and shift rows of the CB table, by operation code y. -/
def decodeRot (y : Nat) : Option Reg8 → Instr
  | some r =>
    match y with
    | 0 => .rlcR r
    | 1 => .rrcR r
    | 2 => .rlR r
    | 3 => .rrR r
    | 4 => .slaR r
    | 5 => .sraR r
    | 6 => .sllR r
    | _ => .srlR r
  | none =>
    match y with
    | 0 => .rlcAtHl
    | 1 => .rrcAtHl
    | 2 => .rlAtHl
    | 3 => .rrAtHl
    | 4 => .slaAtHl
    | 5 => .sraAtHl
    | 6 => .sllAtHl
    | _ => .srlAtHl

/-- The CB-table entry `op` (R317). -/
def decodeCb (op : Byte) : Instr :=
  match opX op with
  | 0 => decodeRot (opY op) (Reg8.ofCode (opZ op))
  | 1 =>
    match Reg8.ofCode (opZ op) with
    | some r => .bitBR (field3 (opY op)) r
    | none => .bitBAtHl (field3 (opY op))
  | 2 =>
    match Reg8.ofCode (opZ op) with
    | some r => .resBR (field3 (opY op)) r
    | none => .resBAtHl (field3 (opY op))
  | _ =>
    match Reg8.ofCode (opZ op) with
    | some r => .setBR (field3 (opY op)) r
    | none => .setBAtHl (field3 (opY op))

/-! ## The ED table (R318, R325) -/

/-- Rows 0x40 to 0x7F of the ED table. -/
def decodeEd1 (y z : Nat) (bs : List Byte) : Decoded :=
  match z with
  | 0 =>
    match Reg8.ofCode y with
    | some r => plain 2 (.inRAtC r)
    | none => plain 2 .inFAtC
  | 1 =>
    match Reg8.ofCode y with
    | some r => plain 2 (.outAtCR r)
    | none => plain 2 .outAtC0
  | 2 => plain 2 (if y % 2 = 0 then .sbcHlRp (RegPair.ofCode (y / 2)) else .adcHlRp (RegPair.ofCode (y / 2)))
  | 3 =>
    match y with
    | 4 => withWord 4 bs .ldAtNnHlEd
    | 5 => withWord 4 bs .ldHlAtNnEd
    | k =>
      if k % 2 = 0 then withWord 4 bs (fun nn => .ldAtNnRp nn (RegPair.ofCode (k / 2)))
      else withWord 4 bs (.ldRpAtNn (RegPair.ofCode (k / 2)))
  | 4 =>
    match y with
    | 0 => plain 2 .neg
    | k => plain 2 (.negMirror (field3 k))
  | 5 =>
    match y with
    | 0 => plain 2 .retn
    | 1 => plain 2 .reti
    | k => plain 2 (.retnMirror (field3 k))
  | 6 =>
    match y with
    | 0 => plain 2 .im0
    | 1 => plain 2 (.im01 false)
    | 2 => plain 2 .im1
    | 3 => plain 2 .im2
    | 4 => plain 2 .im0Mirror
    | 5 => plain 2 (.im01 true)
    | 6 => plain 2 .im1Mirror
    | _ => plain 2 .im2Mirror
  | _ =>
    match y with
    | 0 => plain 2 .ldIA
    | 1 => plain 2 .ldRA
    | 2 => plain 2 .ldAI
    | 3 => plain 2 .ldAR
    | 4 => plain 2 .rrd
    | 5 => plain 2 .rld
    | 6 => plain 2 (.nopEd7 false)
    | _ => plain 2 (.nopEd7 true)

/-- The block instructions, rows 0xA0 to 0xBF of the ED table; `none` in the cells that are no-operations. -/
def decodeBlock (y z : Nat) : Option Instr :=
  match y, z with
  | 4, 0 => some .ldi
  | 4, 1 => some .cpi
  | 4, 2 => some .ini
  | 4, 3 => some .outi
  | 5, 0 => some .ldd
  | 5, 1 => some .cpd
  | 5, 2 => some .ind
  | 5, 3 => some .outd
  | 6, 0 => some .ldir
  | 6, 1 => some .cpir
  | 6, 2 => some .inir
  | 6, 3 => some .otir
  | 7, 0 => some .lddr
  | 7, 1 => some .cpdr
  | 7, 2 => some .indr
  | 7, 3 => some .otdr
  | _, _ => none

/-- The ED-table entry `op`, `bs` being the bytes after it (R318, R325). -/
def decodeEd (op : Byte) (bs : List Byte) : Decoded :=
  match opX op with
  | 1 => decodeEd1 (opY op) (opZ op) bs
  | 2 => plain 2 ((decodeBlock (opY op) (opZ op)).getD (.nopEd op))
  | _ => plain 2 (.nopEd op)

/-! ## The DD and FD tables (R320 to R324) -/

/-- The ALU rows with an index half. -/
def decodeAluHalf (x : XY) (y : Nat) (half : Half) : Instr :=
  match y with
  | 0 => x.pick (.addAIxHalf half) (.addAIyHalf half)
  | 1 => x.pick (.adcAIxHalf half) (.adcAIyHalf half)
  | 2 => x.pick (.subIxHalf half) (.subIyHalf half)
  | 3 => x.pick (.sbcAIxHalf half) (.sbcAIyHalf half)
  | 4 => x.pick (.andIxHalf half) (.andIyHalf half)
  | 5 => x.pick (.xorIxHalf half) (.xorIyHalf half)
  | 6 => x.pick (.orIxHalf half) (.orIyHalf half)
  | _ => x.pick (.cpIxHalf half) (.cpIyHalf half)

/-- The ALU rows with an indexed operand. -/
def aluIndexed (x : XY) (y : Nat) (d : Byte) : Instr :=
  match y with
  | 0 => x.pick (.addAAtIxd d) (.addAAtIyd d)
  | 1 => x.pick (.adcAAtIxd d) (.adcAAtIyd d)
  | 2 => x.pick (.subAtIxd d) (.subAtIyd d)
  | 3 => x.pick (.sbcAAtIxd d) (.sbcAAtIyd d)
  | 4 => x.pick (.andAtIxd d) (.andAtIyd d)
  | 5 => x.pick (.xorAtIxd d) (.xorAtIyd d)
  | 6 => x.pick (.orAtIxd d) (.orAtIyd d)
  | _ => x.pick (.cpAtIxd d) (.cpAtIyd d)

/-- The affected second bytes with x = 0 (R321); `none` for the others. -/
def decodeXy0 (x : XY) (y z : Nat) (bs : List Byte) : Option Decoded :=
  match z with
  | 1 =>
    if y % 2 = 1 then some (plain 2 (x.pick (.addIxRp (XPair.ofCode (y / 2))) (.addIyRp (XPair.ofCode (y / 2)))))
    else if y = 4 then some (withWord 4 bs (x.pick .ldIxNn .ldIyNn))
    else none
  | 2 =>
    match y with
    | 4 => some (withWord 4 bs (x.pick .ldAtNnIx .ldAtNnIy))
    | 5 => some (withWord 4 bs (x.pick .ldIxAtNn .ldIyAtNn))
    | _ => none
  | 3 =>
    match y with
    | 4 => some (plain 2 (x.pick .incIx .incIy))
    | 5 => some (plain 2 (x.pick .decIx .decIy))
    | _ => none
  | 4 =>
    match y with
    | 4 => some (plain 2 (x.pick (.incIxHalf .high) (.incIyHalf .high)))
    | 5 => some (plain 2 (x.pick (.incIxHalf .low) (.incIyHalf .low)))
    | 6 => some (withByte 3 bs (x.pick .incAtIxd .incAtIyd))
    | _ => none
  | 5 =>
    match y with
    | 4 => some (plain 2 (x.pick (.decIxHalf .high) (.decIyHalf .high)))
    | 5 => some (plain 2 (x.pick (.decIxHalf .low) (.decIyHalf .low)))
    | 6 => some (withByte 3 bs (x.pick .decAtIxd .decAtIyd))
    | _ => none
  | 6 =>
    match y with
    | 4 => some (withByte 3 bs (x.pick (.ldIxHalfN .high) (.ldIyHalfN .high)))
    | 5 => some (withByte 3 bs (x.pick (.ldIxHalfN .low) (.ldIyHalfN .low)))
    | 6 => some (withTwo 4 bs (x.pick .ldAtIxdN .ldAtIydN))
    | _ => none
  | _ => none

/-- The affected second bytes with x = 1: loads with an indexed operand, whose other register keeps its plain meaning
(R320 c), or with an index half (R418). -/
def decodeXy1 (x : XY) (y z : Nat) (bs : List Byte) : Option Decoded :=
  match Reg8.ofCode y, Reg8.ofCode z with
  | none, none => none
  | some r, none => some (withByte 3 bs (x.pick (.ldRAtIxd r) (.ldRAtIyd r)))
  | none, some src => some (withByte 3 bs (fun d => x.pick (.ldAtIxdS d src) (.ldAtIydS d src)))
  | some _, some _ =>
    match RegX.ofCode y, RegX.ofCode z with
    | some r, some src =>
      if r.isHalf || src.isHalf then some (plain 2 (x.pick (.ldRSIxHalf r src) (.ldRSIyHalf r src))) else none
    | _, _ => none

/-- The affected second bytes with x = 2: ALU operations on a half or an indexed operand. -/
def decodeXy2 (x : XY) (y z : Nat) (bs : List Byte) : Option Decoded :=
  match z with
  | 4 => some (plain 2 (decodeAluHalf x y .high))
  | 5 => some (plain 2 (decodeAluHalf x y .low))
  | 6 => some (withByte 3 bs (aluIndexed x y))
  | _ => none

/-- The affected second bytes with x = 3, less CB. -/
def decodeXy3 (x : XY) (y z : Nat) : Option Decoded :=
  match y, z with
  | 4, 1 => some (plain 2 (x.pick .popIx .popIy))
  | 4, 3 => some (plain 2 (x.pick .exAtSpIx .exAtSpIy))
  | 4, 5 => some (plain 2 (x.pick .pushIx .pushIy))
  | 5, 1 => some (plain 2 (x.pick .jpIx .jpIy))
  | 7, 1 => some (plain 2 (x.pick .ldSpIx .ldSpIy))
  | _, _ => none

/-- The DD/FD-table entry `op` where the prefix affects it, else `none` (R321). -/
def decodeAffected (x : XY) (op : Byte) (bs : List Byte) : Option Decoded :=
  match opX op with
  | 0 => decodeXy0 x (opY op) (opZ op) bs
  | 1 => decodeXy1 x (opY op) (opZ op) bs
  | 2 => decodeXy2 x (opY op) (opZ op) bs
  | _ => decodeXy3 x (opY op) (opZ op)

/-- A DD or FD before an unprefixed instruction it does not affect: one byte longer (R323). -/
def prefixed (x : XY) (d : Decoded) : Decoded :=
  match d with
  | .ok (i, len) => .ok (x.pick (.ddUnprefixed i) (.fdUnprefixed i), len + 1)
  | .error e => .error e

/-! ## The DD CB and FD CB tables (R319) -/

/-- The rotate and shift rows of the DDCB and FDCB tables; z other than 6 names the copy register (R713). -/
def decodeRotIndexed (x : XY) (y : Nat) (d : Byte) : Option Reg8 → Instr
  | some r =>
    match y with
    | 0 => x.pick (.ldRRlcAtIxd d r) (.ldRRlcAtIyd d r)
    | 1 => x.pick (.ldRRrcAtIxd d r) (.ldRRrcAtIyd d r)
    | 2 => x.pick (.ldRRlAtIxd d r) (.ldRRlAtIyd d r)
    | 3 => x.pick (.ldRRrAtIxd d r) (.ldRRrAtIyd d r)
    | 4 => x.pick (.ldRSlaAtIxd d r) (.ldRSlaAtIyd d r)
    | 5 => x.pick (.ldRSraAtIxd d r) (.ldRSraAtIyd d r)
    | 6 => x.pick (.ldRSllAtIxd d r) (.ldRSllAtIyd d r)
    | _ => x.pick (.ldRSrlAtIxd d r) (.ldRSrlAtIyd d r)
  | none =>
    match y with
    | 0 => x.pick (.rlcAtIxd d) (.rlcAtIyd d)
    | 1 => x.pick (.rrcAtIxd d) (.rrcAtIyd d)
    | 2 => x.pick (.rlAtIxd d) (.rlAtIyd d)
    | 3 => x.pick (.rrAtIxd d) (.rrAtIyd d)
    | 4 => x.pick (.slaAtIxd d) (.slaAtIyd d)
    | 5 => x.pick (.sraAtIxd d) (.sraAtIyd d)
    | 6 => x.pick (.sllAtIxd d) (.sllAtIyd d)
    | _ => x.pick (.srlAtIxd d) (.srlAtIyd d)

/-- The DDCB/FDCB-table entry `op` with displacement `d` (R319). -/
def decodeXyCb (x : XY) (d op : Byte) : Instr :=
  match opX op with
  | 0 => decodeRotIndexed x (opY op) d (Reg8.ofCode (opZ op))
  | 1 =>
    match Reg8.ofCode (opZ op) with
    | some z => x.pick (.bitBAtIxdMirror (field3 (opY op)) d z) (.bitBAtIydMirror (field3 (opY op)) d z)
    | none => x.pick (.bitBAtIxd (field3 (opY op)) d) (.bitBAtIyd (field3 (opY op)) d)
  | 2 =>
    match Reg8.ofCode (opZ op) with
    | some r => x.pick (.ldRResBAtIxd (field3 (opY op)) d r) (.ldRResBAtIyd (field3 (opY op)) d r)
    | none => x.pick (.resBAtIxd (field3 (opY op)) d) (.resBAtIyd (field3 (opY op)) d)
  | _ =>
    match Reg8.ofCode (opZ op) with
    | some r => x.pick (.ldRSetBAtIxd (field3 (opY op)) d r) (.ldRSetBAtIyd (field3 (opY op)) d r)
    | none => x.pick (.setBAtIxd (field3 (opY op)) d) (.setBAtIyd (field3 (opY op)) d)

/-! ## The prefix state machine (R302) -/

/-- After a DD or FD: a chain byte makes it an ignored prefix of one byte (R324); CB selects the double-prefixed table, the
displacement standing before the final opcode; else the affected entry, or the unaffected unprefixed instruction (R323).
A list that ends right after the prefix bytes gives the prefix row (R312 format P). -/
def decodeXy (x : XY) (bs : List Byte) : Decoded :=
  match bs with
  | [] => plain 1 (x.pick .prefixDd .prefixFd)
  | b1 :: rest =>
    match ChainByte.ofByte b1 with
    | some next => plain 1 (x.pick (.ignoredDd next) (.ignoredFd next))
    | none =>
      if b1 = 0xCB#8 then
        match rest with
        | [] => plain 2 (x.pick .prefixDdCb .prefixFdCb)
        | [_] => .error .truncated
        | d :: op :: _ => plain 4 (decodeXyCb x d op)
      else
        match decodeAffected x b1 rest with
        | some d => d
        | none => prefixed x (decodeBase b1 rest)

/-- Decode the instruction at the head of a list of bytes (R302). -/
def decode (bs : List Byte) : Decoded :=
  match bs with
  | [] => .error .noBytes
  | b0 :: rest =>
    if b0 = 0xCB#8 then
      match rest with
      | [] => plain 1 .prefixCb
      | op :: _ => plain 2 (decodeCb op)
    else if b0 = 0xED#8 then
      match rest with
      | [] => plain 1 .prefixEd
      | op :: rest => decodeEd op rest
    else if b0 = 0xDD#8 then decodeXy .ix rest
    else if b0 = 0xFD#8 then decodeXy .iy rest
    else decodeBase b0 rest

/-! ## How many operand bytes follow an opcode (R307, R312) -/

/-- Operand bytes of an unprefixed opcode: formats U1, U2, U3. -/
def baseOperands (op : Byte) : Nat :=
  match opX op, opZ op with
  | 0, 0 => if 2 ≤ opY op then 1 else 0
  | 0, 1 => if opY op % 2 = 0 then 2 else 0
  | 0, 2 => if 4 ≤ opY op then 2 else 0
  | 0, 6 => 1
  | 3, 2 => 2
  | 3, 3 => if opY op = 0 then 2 else if opY op = 2 ∨ opY op = 3 then 1 else 0
  | 3, 4 => 2
  | 3, 5 => if opY op = 1 then 2 else 0
  | 3, 6 => 1
  | _, _ => 0

/-- Operand bytes of an ED opcode: formats ED, ED4. -/
def edOperands (op : Byte) : Nat :=
  if opX op = 1 ∧ opZ op = 3 then 2 else 0

/-- Operand bytes of the second byte after a DD or FD, CB and chain bytes apart: formats X, X3, X4, Xd, Xdn, XU. An affected
opcode with an (HL) operand gains the displacement (R320 b). -/
def xyOperands (op : Byte) : Nat :=
  if op = 0x34#8 ∨ op = 0x35#8 then 1
  else if op = 0x36#8 then 2
  else if op = 0x76#8 then 0
  else if opX op = 1 ∧ (opY op = 6 ∨ opZ op = 6) then 1
  else if opX op = 2 ∧ opZ op = 6 then 1
  else baseOperands op

/-! ## Documented encodings (R326) -/

/-- CB table: all but SLL. -/
def cbDocumented (op : Byte) : Bool := !(opX op == 0 && opY op == 6)

/-- ED table: the cells of R318 without a star. -/
def edDocumented (op : Byte) : Bool :=
  match opX op, opZ op with
  | 1, 0 => opY op != 6
  | 1, 1 => opY op != 6
  | 1, 2 => true
  | 1, 3 => opY op != 4 && opY op != 5
  | 1, 4 => opY op == 0
  | 1, 5 => opY op ≤ 1
  | 1, 6 => opY op == 0 || opY op == 2 || opY op == 3
  | 1, _ => opY op ≤ 5
  | 2, z => 4 ≤ opY op && z ≤ 3
  | _, _ => false

/-- DD and FD tables: the affected opcodes that name no half (R321); every other second byte is undocumented (R326). -/
def xyDocumented (op : Byte) : Bool :=
  match opX op, opZ op with
  | 0, 1 => opY op % 2 == 1 || opY op == 4
  | 0, 2 => opY op == 4 || opY op == 5
  | 0, 3 => opY op == 4 || opY op == 5
  | 0, 4 => opY op == 6
  | 0, 5 => opY op == 6
  | 0, 6 => opY op == 6
  | 1, z => (opY op == 6) != (z == 6)
  | 2, 6 => true
  | 3, 1 => opY op == 4 || opY op == 5 || opY op == 7
  | 3, 3 => opY op == 4
  | 3, 5 => opY op == 4
  | _, _ => false

/-- DDCB and FDCB tables: z = 6, and not SLL. -/
def xyCbDocumented (op : Byte) : Bool := opZ op == 6 && !(opX op == 0 && opY op == 6)

/-- Whether the identifying bytes of an encoding (R326: the two bytes of a CB, ED, DD or FD encoding, the four of a DD CB or
FD CB one) name a documented one. Every unprefixed encoding is documented. -/
def documented (bs : List Byte) : Bool :=
  match bs with
  | b0 :: b1 :: rest =>
    if b0 = 0xCB#8 then cbDocumented b1
    else if b0 = 0xED#8 then edDocumented b1
    else if b0 = 0xDD#8 ∨ b0 = 0xFD#8 then
      if b1 = 0xCB#8 then
        match rest with
        | _ :: op :: _ => xyCbDocumented op
        | _ => true
      else xyDocumented b1
    else true
  | _ => true

/-! ## The encoder, from the same tables -/

/-- Register codes (R310). -/
def Reg8.code : Reg8 → Nat
  | .b => 0
  | .c => 1
  | .d => 2
  | .e => 3
  | .h => 4
  | .l => 5
  | .a => 7

/-- Register codes under a prefix (R322). -/
def RegX.code : RegX → Nat
  | .b => 0
  | .c => 1
  | .d => 2
  | .e => 3
  | .xh => 4
  | .xl => 5
  | .a => 7

/-- `rp` codes (R310). -/
def RegPair.code : RegPair → Nat
  | .bc => 0
  | .de => 1
  | .hl => 2
  | .sp => 3

/-- `rp` codes under a prefix (R310). -/
def XPair.code : XPair → Nat
  | .bc => 0
  | .de => 1
  | .xy => 2
  | .sp => 3

/-- `rp2` codes (R310). -/
def StackPair.code : StackPair → Nat
  | .bc => 0
  | .de => 1
  | .hl => 2
  | .af => 3

/-- `cc` codes (10_state.md R110). -/
def Cond.code : Cond → Nat
  | .nz => 0
  | .z => 1
  | .nc => 2
  | .c => 3
  | .po => 4
  | .pe => 5
  | .p => 6
  | .m => 7

/-- `k` codes (R311). -/
def RelCond.code : RelCond → Nat
  | .nz => 0
  | .z => 1
  | .nc => 2
  | .c => 3

/-- y of a half (R310). -/
def Half.code : Half → Nat
  | .high => 0
  | .low => 1

/-- The chain bytes (R324). -/
def ChainByte.byte : ChainByte → Byte
  | .dd => 0xDD#8
  | .ed => 0xED#8
  | .fd => 0xFD#8

/-- An opcode byte with its fields filled in. -/
def opByte (n : Nat) : Byte := BitVec.ofNat 8 n

/-- The low byte of a 16-bit operand, which stands first (R305). -/
def nnLo (nn : Word) : Byte := nn.extractLsb' 0 8

/-- The high byte of a 16-bit operand. -/
def nnHi (nn : Word) : Byte := nn.extractLsb' 8 8

/-- The bytes of an unprefixed instruction (the base table, R315, R316); no byte for any other. -/
def encodeBase : Instr → List Byte
  | .nop => [0x00#8]
  | .ldRpNn rp nn => [opByte (0x01 + 16 * rp.code), nnLo nn, nnHi nn]
  | .addHlRp rp => [opByte (0x09 + 16 * rp.code)]
  | .ldAtBcA => [0x02#8]
  | .ldAtDeA => [0x12#8]
  | .ldAtNnHl nn => [0x22#8, nnLo nn, nnHi nn]
  | .ldAtNnA nn => [0x32#8, nnLo nn, nnHi nn]
  | .ldAAtBc => [0x0A#8]
  | .ldAAtDe => [0x1A#8]
  | .ldHlAtNn nn => [0x2A#8, nnLo nn, nnHi nn]
  | .ldAAtNn nn => [0x3A#8, nnLo nn, nnHi nn]
  | .incRp rp => [opByte (0x03 + 16 * rp.code)]
  | .decRp rp => [opByte (0x0B + 16 * rp.code)]
  | .incR r => [opByte (0x04 + 8 * r.code)]
  | .incAtHl => [0x34#8]
  | .decR r => [opByte (0x05 + 8 * r.code)]
  | .decAtHl => [0x35#8]
  | .ldRN r n => [opByte (0x06 + 8 * r.code), n]
  | .ldAtHlN n => [0x36#8, n]
  | .rlca => [0x07#8]
  | .rrca => [0x0F#8]
  | .rla => [0x17#8]
  | .rra => [0x1F#8]
  | .daa => [0x27#8]
  | .cpl => [0x2F#8]
  | .scf => [0x37#8]
  | .ccf => [0x3F#8]
  | .exAfAf => [0x08#8]
  | .ret => [0xC9#8]
  | .exx => [0xD9#8]
  | .jpHl => [0xE9#8]
  | .ldSpHl => [0xF9#8]
  | .exDeHl => [0xEB#8]
  | .di => [0xF3#8]
  | .ei => [0xFB#8]
  | .halt => [0x76#8]
  | .djnzE d => [0x10#8, d]
  | .jrE d => [0x18#8, d]
  | .jrCcE cc d => [opByte (0x20 + 8 * cc.code), d]
  | .ldRS r src => [opByte (0x40 + 8 * r.code + src.code)]
  | .ldRAtHl r => [opByte (0x46 + 8 * r.code)]
  | .ldAtHlS src => [opByte (0x70 + src.code)]
  | .addAS src => [opByte (0x80 + src.code)]
  | .addAAtHl => [0x86#8]
  | .addAN n => [0xC6#8, n]
  | .adcAS src => [opByte (0x88 + src.code)]
  | .adcAAtHl => [0x8E#8]
  | .adcAN n => [0xCE#8, n]
  | .subS src => [opByte (0x90 + src.code)]
  | .subAtHl => [0x96#8]
  | .subN n => [0xD6#8, n]
  | .sbcAS src => [opByte (0x98 + src.code)]
  | .sbcAAtHl => [0x9E#8]
  | .sbcAN n => [0xDE#8, n]
  | .andS src => [opByte (0xA0 + src.code)]
  | .andAtHl => [0xA6#8]
  | .andN n => [0xE6#8, n]
  | .xorS src => [opByte (0xA8 + src.code)]
  | .xorAtHl => [0xAE#8]
  | .xorN n => [0xEE#8, n]
  | .orS src => [opByte (0xB0 + src.code)]
  | .orAtHl => [0xB6#8]
  | .orN n => [0xF6#8, n]
  | .cpS src => [opByte (0xB8 + src.code)]
  | .cpAtHl => [0xBE#8]
  | .cpN n => [0xFE#8, n]
  | .retCc cc => [opByte (0xC0 + 8 * cc.code)]
  | .popRp2 rp => [opByte (0xC1 + 16 * rp.code)]
  | .jpCcNn cc nn => [opByte (0xC2 + 8 * cc.code), nnLo nn, nnHi nn]
  | .jpNn nn => [0xC3#8, nnLo nn, nnHi nn]
  | .outAtNA n => [0xD3#8, n]
  | .inAAtN n => [0xDB#8, n]
  | .exAtSpHl => [0xE3#8]
  | .callCcNn cc nn => [opByte (0xC4 + 8 * cc.code), nnLo nn, nnHi nn]
  | .pushRp2 rp => [opByte (0xC5 + 16 * rp.code)]
  | .callNn nn => [0xCD#8, nnLo nn, nnHi nn]
  | .rstP t => [opByte (0xC7 + 8 * t.val)]
  | .prefixCb => [0xCB#8]
  | .prefixEd => [0xED#8]
  | .prefixDd => [0xDD#8]
  | .prefixFd => [0xFD#8]
  | .rlcR .. | .rlcAtHl | .rrcR .. | .rrcAtHl | .rlR .. | .rlAtHl | .rrR .. | .rrAtHl | .slaR .. | .slaAtHl
  | .sraR .. | .sraAtHl | .sllR .. | .sllAtHl | .srlR .. | .srlAtHl | .bitBR .. | .bitBAtHl .. | .resBR ..
  | .resBAtHl .. | .setBR .. | .setBAtHl .. | .inRAtC .. | .inFAtC | .outAtCR .. | .outAtC0 | .sbcHlRp ..
  | .adcHlRp .. | .ldAtNnRp .. | .ldAtNnHlEd .. | .ldRpAtNn .. | .ldHlAtNnEd .. | .neg | .negMirror .. | .retn
  | .retnMirror .. | .reti | .im0 | .im0Mirror | .im1 | .im1Mirror | .im2 | .im2Mirror | .im01 .. | .ldIA | .ldRA
  | .ldAI | .ldAR | .rrd | .rld | .nopEd7 .. | .ldi | .cpi | .ini | .outi | .ldd | .cpd | .ind | .outd | .ldir
  | .cpir | .inir | .otir | .lddr | .cpdr | .indr | .otdr | .nopEd .. | .addIxRp .. | .ldIxNn .. | .ldAtNnIx ..
  | .ldIxAtNn .. | .incIx | .decIx | .incIxHalf .. | .decIxHalf .. | .ldIxHalfN .. | .incAtIxd .. | .decAtIxd ..
  | .ldAtIxdN .. | .ldRAtIxd .. | .ldAtIxdS .. | .ldRSIxHalf .. | .addAIxHalf .. | .addAAtIxd .. | .adcAIxHalf ..
  | .adcAAtIxd .. | .subIxHalf .. | .subAtIxd .. | .sbcAIxHalf .. | .sbcAAtIxd .. | .andIxHalf .. | .andAtIxd ..
  | .xorIxHalf .. | .xorAtIxd .. | .orIxHalf .. | .orAtIxd .. | .cpIxHalf .. | .cpAtIxd .. | .popIx | .exAtSpIx
  | .pushIx | .jpIx | .ldSpIx | .prefixDdCb | .ignoredDd .. | .ddUnprefixed .. | .addIyRp .. | .ldIyNn ..
  | .ldAtNnIy .. | .ldIyAtNn .. | .incIy | .decIy | .incIyHalf .. | .decIyHalf .. | .ldIyHalfN .. | .incAtIyd ..
  | .decAtIyd .. | .ldAtIydN .. | .ldRAtIyd .. | .ldAtIydS .. | .ldRSIyHalf .. | .addAIyHalf .. | .addAAtIyd ..
  | .adcAIyHalf .. | .adcAAtIyd .. | .subIyHalf .. | .subAtIyd .. | .sbcAIyHalf .. | .sbcAAtIyd .. | .andIyHalf ..
  | .andAtIyd .. | .xorIyHalf .. | .xorAtIyd .. | .orIyHalf .. | .orAtIyd .. | .cpIyHalf .. | .cpAtIyd .. | .popIy
  | .exAtSpIy | .pushIy | .jpIy | .ldSpIy | .prefixFdCb | .ignoredFd .. | .fdUnprefixed .. | .rlcAtIxd ..
  | .ldRRlcAtIxd .. | .rrcAtIxd .. | .ldRRrcAtIxd .. | .rlAtIxd .. | .ldRRlAtIxd .. | .rrAtIxd .. | .ldRRrAtIxd ..
  | .slaAtIxd .. | .ldRSlaAtIxd .. | .sraAtIxd .. | .ldRSraAtIxd .. | .sllAtIxd .. | .ldRSllAtIxd .. | .srlAtIxd ..
  | .ldRSrlAtIxd .. | .bitBAtIxd .. | .bitBAtIxdMirror .. | .resBAtIxd .. | .ldRResBAtIxd .. | .setBAtIxd ..
  | .ldRSetBAtIxd .. | .rlcAtIyd .. | .ldRRlcAtIyd .. | .rrcAtIyd .. | .ldRRrcAtIyd .. | .rlAtIyd .. | .ldRRlAtIyd ..
  | .rrAtIyd .. | .ldRRrAtIyd .. | .slaAtIyd .. | .ldRSlaAtIyd .. | .sraAtIyd .. | .ldRSraAtIyd .. | .sllAtIyd ..
  | .ldRSllAtIyd .. | .srlAtIyd .. | .ldRSrlAtIyd .. | .bitBAtIyd .. | .bitBAtIydMirror .. | .resBAtIyd ..
  | .ldRResBAtIyd .. | .setBAtIyd .. | .ldRSetBAtIyd .. => []

/-- The bytes of an instruction (R312, the `bytes` column of spec/opcode_table.json). An ignored prefix is written with the byte it is
looked at with, which is not consumed (R324). -/
def encode (i : Instr) : List Byte :=
  match i with
  | .nop | .ldRpNn .. | .addHlRp .. | .ldAtBcA | .ldAtDeA | .ldAtNnHl .. | .ldAtNnA .. | .ldAAtBc | .ldAAtDe
  | .ldHlAtNn .. | .ldAAtNn .. | .incRp .. | .decRp .. | .incR .. | .incAtHl | .decR .. | .decAtHl | .ldRN ..
  | .ldAtHlN .. | .rlca | .rrca | .rla | .rra | .daa | .cpl | .scf | .ccf | .exAfAf | .ret | .exx | .jpHl | .ldSpHl
  | .exDeHl | .di | .ei | .halt | .djnzE .. | .jrE .. | .jrCcE .. | .ldRS .. | .ldRAtHl .. | .ldAtHlS .. | .addAS ..
  | .addAAtHl | .addAN .. | .adcAS .. | .adcAAtHl | .adcAN .. | .subS .. | .subAtHl | .subN .. | .sbcAS ..
  | .sbcAAtHl | .sbcAN .. | .andS .. | .andAtHl | .andN .. | .xorS .. | .xorAtHl | .xorN .. | .orS .. | .orAtHl
  | .orN .. | .cpS .. | .cpAtHl | .cpN .. | .retCc .. | .popRp2 .. | .jpCcNn .. | .jpNn .. | .outAtNA .. | .inAAtN ..
  | .exAtSpHl | .callCcNn .. | .pushRp2 .. | .callNn .. | .rstP .. | .prefixCb | .prefixEd | .prefixDd | .prefixFd => encodeBase i
  | .rlcR r => [0xCB#8, opByte (0x00 + r.code)]
  | .rlcAtHl => [0xCB#8, 0x06#8]
  | .rrcR r => [0xCB#8, opByte (0x08 + r.code)]
  | .rrcAtHl => [0xCB#8, 0x0E#8]
  | .rlR r => [0xCB#8, opByte (0x10 + r.code)]
  | .rlAtHl => [0xCB#8, 0x16#8]
  | .rrR r => [0xCB#8, opByte (0x18 + r.code)]
  | .rrAtHl => [0xCB#8, 0x1E#8]
  | .slaR r => [0xCB#8, opByte (0x20 + r.code)]
  | .slaAtHl => [0xCB#8, 0x26#8]
  | .sraR r => [0xCB#8, opByte (0x28 + r.code)]
  | .sraAtHl => [0xCB#8, 0x2E#8]
  | .sllR r => [0xCB#8, opByte (0x30 + r.code)]
  | .sllAtHl => [0xCB#8, 0x36#8]
  | .srlR r => [0xCB#8, opByte (0x38 + r.code)]
  | .srlAtHl => [0xCB#8, 0x3E#8]
  | .bitBR bit r => [0xCB#8, opByte (0x40 + 8 * bit.val + r.code)]
  | .bitBAtHl bit => [0xCB#8, opByte (0x46 + 8 * bit.val)]
  | .resBR bit r => [0xCB#8, opByte (0x80 + 8 * bit.val + r.code)]
  | .resBAtHl bit => [0xCB#8, opByte (0x86 + 8 * bit.val)]
  | .setBR bit r => [0xCB#8, opByte (0xC0 + 8 * bit.val + r.code)]
  | .setBAtHl bit => [0xCB#8, opByte (0xC6 + 8 * bit.val)]
  | .inRAtC r => [0xED#8, opByte (0x40 + 8 * r.code)]
  | .inFAtC => [0xED#8, 0x70#8]
  | .outAtCR r => [0xED#8, opByte (0x41 + 8 * r.code)]
  | .outAtC0 => [0xED#8, 0x71#8]
  | .sbcHlRp rp => [0xED#8, opByte (0x42 + 16 * rp.code)]
  | .adcHlRp rp => [0xED#8, opByte (0x4A + 16 * rp.code)]
  | .ldAtNnRp nn rp => [0xED#8, opByte (0x43 + 16 * rp.code), nnLo nn, nnHi nn]
  | .ldAtNnHlEd nn => [0xED#8, 0x63#8, nnLo nn, nnHi nn]
  | .ldRpAtNn rp nn => [0xED#8, opByte (0x4B + 16 * rp.code), nnLo nn, nnHi nn]
  | .ldHlAtNnEd nn => [0xED#8, 0x6B#8, nnLo nn, nnHi nn]
  | .neg => [0xED#8, 0x44#8]
  | .negMirror y => [0xED#8, opByte (0x44 + 8 * y.val)]
  | .retn => [0xED#8, 0x45#8]
  | .retnMirror y => [0xED#8, opByte (0x45 + 8 * y.val)]
  | .reti => [0xED#8, 0x4D#8]
  | .im0 => [0xED#8, 0x46#8]
  | .im0Mirror => [0xED#8, 0x66#8]
  | .im1 => [0xED#8, 0x56#8]
  | .im1Mirror => [0xED#8, 0x76#8]
  | .im2 => [0xED#8, 0x5E#8]
  | .im2Mirror => [0xED#8, 0x7E#8]
  | .im01 y => [0xED#8, opByte (0x4E + 32 * y.toNat)]
  | .ldIA => [0xED#8, 0x47#8]
  | .ldRA => [0xED#8, 0x4F#8]
  | .ldAI => [0xED#8, 0x57#8]
  | .ldAR => [0xED#8, 0x5F#8]
  | .rrd => [0xED#8, 0x67#8]
  | .rld => [0xED#8, 0x6F#8]
  | .nopEd7 y => [0xED#8, opByte (0x77 + 8 * y.toNat)]
  | .ldi => [0xED#8, 0xA0#8]
  | .cpi => [0xED#8, 0xA1#8]
  | .ini => [0xED#8, 0xA2#8]
  | .outi => [0xED#8, 0xA3#8]
  | .ldd => [0xED#8, 0xA8#8]
  | .cpd => [0xED#8, 0xA9#8]
  | .ind => [0xED#8, 0xAA#8]
  | .outd => [0xED#8, 0xAB#8]
  | .ldir => [0xED#8, 0xB0#8]
  | .cpir => [0xED#8, 0xB1#8]
  | .inir => [0xED#8, 0xB2#8]
  | .otir => [0xED#8, 0xB3#8]
  | .lddr => [0xED#8, 0xB8#8]
  | .cpdr => [0xED#8, 0xB9#8]
  | .indr => [0xED#8, 0xBA#8]
  | .otdr => [0xED#8, 0xBB#8]
  | .nopEd op => [0xED#8, op]
  | .addIxRp rp => [0xDD#8, opByte (0x09 + 16 * rp.code)]
  | .ldIxNn nn => [0xDD#8, 0x21#8, nnLo nn, nnHi nn]
  | .ldAtNnIx nn => [0xDD#8, 0x22#8, nnLo nn, nnHi nn]
  | .ldIxAtNn nn => [0xDD#8, 0x2A#8, nnLo nn, nnHi nn]
  | .incIx => [0xDD#8, 0x23#8]
  | .decIx => [0xDD#8, 0x2B#8]
  | .incIxHalf half => [0xDD#8, opByte (0x24 + 8 * half.code)]
  | .decIxHalf half => [0xDD#8, opByte (0x25 + 8 * half.code)]
  | .ldIxHalfN half n => [0xDD#8, opByte (0x26 + 8 * half.code), n]
  | .incAtIxd d => [0xDD#8, 0x34#8, d]
  | .decAtIxd d => [0xDD#8, 0x35#8, d]
  | .ldAtIxdN d n => [0xDD#8, 0x36#8, d, n]
  | .ldRAtIxd r d => [0xDD#8, opByte (0x46 + 8 * r.code), d]
  | .ldAtIxdS d src => [0xDD#8, opByte (0x70 + src.code), d]
  | .ldRSIxHalf r src => [0xDD#8, opByte (0x40 + 8 * r.code + src.code)]
  | .addAIxHalf half => [0xDD#8, opByte (0x84 + half.code)]
  | .addAAtIxd d => [0xDD#8, 0x86#8, d]
  | .adcAIxHalf half => [0xDD#8, opByte (0x8C + half.code)]
  | .adcAAtIxd d => [0xDD#8, 0x8E#8, d]
  | .subIxHalf half => [0xDD#8, opByte (0x94 + half.code)]
  | .subAtIxd d => [0xDD#8, 0x96#8, d]
  | .sbcAIxHalf half => [0xDD#8, opByte (0x9C + half.code)]
  | .sbcAAtIxd d => [0xDD#8, 0x9E#8, d]
  | .andIxHalf half => [0xDD#8, opByte (0xA4 + half.code)]
  | .andAtIxd d => [0xDD#8, 0xA6#8, d]
  | .xorIxHalf half => [0xDD#8, opByte (0xAC + half.code)]
  | .xorAtIxd d => [0xDD#8, 0xAE#8, d]
  | .orIxHalf half => [0xDD#8, opByte (0xB4 + half.code)]
  | .orAtIxd d => [0xDD#8, 0xB6#8, d]
  | .cpIxHalf half => [0xDD#8, opByte (0xBC + half.code)]
  | .cpAtIxd d => [0xDD#8, 0xBE#8, d]
  | .popIx => [0xDD#8, 0xE1#8]
  | .exAtSpIx => [0xDD#8, 0xE3#8]
  | .pushIx => [0xDD#8, 0xE5#8]
  | .jpIx => [0xDD#8, 0xE9#8]
  | .ldSpIx => [0xDD#8, 0xF9#8]
  | .prefixDdCb => [0xDD#8, 0xCB#8]
  | .ignoredDd next => [0xDD#8, next.byte]
  | .ddUnprefixed inner => 0xDD#8 :: encodeBase inner
  | .addIyRp rp => [0xFD#8, opByte (0x09 + 16 * rp.code)]
  | .ldIyNn nn => [0xFD#8, 0x21#8, nnLo nn, nnHi nn]
  | .ldAtNnIy nn => [0xFD#8, 0x22#8, nnLo nn, nnHi nn]
  | .ldIyAtNn nn => [0xFD#8, 0x2A#8, nnLo nn, nnHi nn]
  | .incIy => [0xFD#8, 0x23#8]
  | .decIy => [0xFD#8, 0x2B#8]
  | .incIyHalf half => [0xFD#8, opByte (0x24 + 8 * half.code)]
  | .decIyHalf half => [0xFD#8, opByte (0x25 + 8 * half.code)]
  | .ldIyHalfN half n => [0xFD#8, opByte (0x26 + 8 * half.code), n]
  | .incAtIyd d => [0xFD#8, 0x34#8, d]
  | .decAtIyd d => [0xFD#8, 0x35#8, d]
  | .ldAtIydN d n => [0xFD#8, 0x36#8, d, n]
  | .ldRAtIyd r d => [0xFD#8, opByte (0x46 + 8 * r.code), d]
  | .ldAtIydS d src => [0xFD#8, opByte (0x70 + src.code), d]
  | .ldRSIyHalf r src => [0xFD#8, opByte (0x40 + 8 * r.code + src.code)]
  | .addAIyHalf half => [0xFD#8, opByte (0x84 + half.code)]
  | .addAAtIyd d => [0xFD#8, 0x86#8, d]
  | .adcAIyHalf half => [0xFD#8, opByte (0x8C + half.code)]
  | .adcAAtIyd d => [0xFD#8, 0x8E#8, d]
  | .subIyHalf half => [0xFD#8, opByte (0x94 + half.code)]
  | .subAtIyd d => [0xFD#8, 0x96#8, d]
  | .sbcAIyHalf half => [0xFD#8, opByte (0x9C + half.code)]
  | .sbcAAtIyd d => [0xFD#8, 0x9E#8, d]
  | .andIyHalf half => [0xFD#8, opByte (0xA4 + half.code)]
  | .andAtIyd d => [0xFD#8, 0xA6#8, d]
  | .xorIyHalf half => [0xFD#8, opByte (0xAC + half.code)]
  | .xorAtIyd d => [0xFD#8, 0xAE#8, d]
  | .orIyHalf half => [0xFD#8, opByte (0xB4 + half.code)]
  | .orAtIyd d => [0xFD#8, 0xB6#8, d]
  | .cpIyHalf half => [0xFD#8, opByte (0xBC + half.code)]
  | .cpAtIyd d => [0xFD#8, 0xBE#8, d]
  | .popIy => [0xFD#8, 0xE1#8]
  | .exAtSpIy => [0xFD#8, 0xE3#8]
  | .pushIy => [0xFD#8, 0xE5#8]
  | .jpIy => [0xFD#8, 0xE9#8]
  | .ldSpIy => [0xFD#8, 0xF9#8]
  | .prefixFdCb => [0xFD#8, 0xCB#8]
  | .ignoredFd next => [0xFD#8, next.byte]
  | .fdUnprefixed inner => 0xFD#8 :: encodeBase inner
  | .rlcAtIxd d => [0xDD#8, 0xCB#8, d, 0x06#8]
  | .ldRRlcAtIxd d r => [0xDD#8, 0xCB#8, d, opByte (0x00 + r.code)]
  | .rrcAtIxd d => [0xDD#8, 0xCB#8, d, 0x0E#8]
  | .ldRRrcAtIxd d r => [0xDD#8, 0xCB#8, d, opByte (0x08 + r.code)]
  | .rlAtIxd d => [0xDD#8, 0xCB#8, d, 0x16#8]
  | .ldRRlAtIxd d r => [0xDD#8, 0xCB#8, d, opByte (0x10 + r.code)]
  | .rrAtIxd d => [0xDD#8, 0xCB#8, d, 0x1E#8]
  | .ldRRrAtIxd d r => [0xDD#8, 0xCB#8, d, opByte (0x18 + r.code)]
  | .slaAtIxd d => [0xDD#8, 0xCB#8, d, 0x26#8]
  | .ldRSlaAtIxd d r => [0xDD#8, 0xCB#8, d, opByte (0x20 + r.code)]
  | .sraAtIxd d => [0xDD#8, 0xCB#8, d, 0x2E#8]
  | .ldRSraAtIxd d r => [0xDD#8, 0xCB#8, d, opByte (0x28 + r.code)]
  | .sllAtIxd d => [0xDD#8, 0xCB#8, d, 0x36#8]
  | .ldRSllAtIxd d r => [0xDD#8, 0xCB#8, d, opByte (0x30 + r.code)]
  | .srlAtIxd d => [0xDD#8, 0xCB#8, d, 0x3E#8]
  | .ldRSrlAtIxd d r => [0xDD#8, 0xCB#8, d, opByte (0x38 + r.code)]
  | .bitBAtIxd bit d => [0xDD#8, 0xCB#8, d, opByte (0x46 + 8 * bit.val)]
  | .bitBAtIxdMirror bit d z => [0xDD#8, 0xCB#8, d, opByte (0x40 + 8 * bit.val + z.code)]
  | .resBAtIxd bit d => [0xDD#8, 0xCB#8, d, opByte (0x86 + 8 * bit.val)]
  | .ldRResBAtIxd bit d r => [0xDD#8, 0xCB#8, d, opByte (0x80 + 8 * bit.val + r.code)]
  | .setBAtIxd bit d => [0xDD#8, 0xCB#8, d, opByte (0xC6 + 8 * bit.val)]
  | .ldRSetBAtIxd bit d r => [0xDD#8, 0xCB#8, d, opByte (0xC0 + 8 * bit.val + r.code)]
  | .rlcAtIyd d => [0xFD#8, 0xCB#8, d, 0x06#8]
  | .ldRRlcAtIyd d r => [0xFD#8, 0xCB#8, d, opByte (0x00 + r.code)]
  | .rrcAtIyd d => [0xFD#8, 0xCB#8, d, 0x0E#8]
  | .ldRRrcAtIyd d r => [0xFD#8, 0xCB#8, d, opByte (0x08 + r.code)]
  | .rlAtIyd d => [0xFD#8, 0xCB#8, d, 0x16#8]
  | .ldRRlAtIyd d r => [0xFD#8, 0xCB#8, d, opByte (0x10 + r.code)]
  | .rrAtIyd d => [0xFD#8, 0xCB#8, d, 0x1E#8]
  | .ldRRrAtIyd d r => [0xFD#8, 0xCB#8, d, opByte (0x18 + r.code)]
  | .slaAtIyd d => [0xFD#8, 0xCB#8, d, 0x26#8]
  | .ldRSlaAtIyd d r => [0xFD#8, 0xCB#8, d, opByte (0x20 + r.code)]
  | .sraAtIyd d => [0xFD#8, 0xCB#8, d, 0x2E#8]
  | .ldRSraAtIyd d r => [0xFD#8, 0xCB#8, d, opByte (0x28 + r.code)]
  | .sllAtIyd d => [0xFD#8, 0xCB#8, d, 0x36#8]
  | .ldRSllAtIyd d r => [0xFD#8, 0xCB#8, d, opByte (0x30 + r.code)]
  | .srlAtIyd d => [0xFD#8, 0xCB#8, d, 0x3E#8]
  | .ldRSrlAtIyd d r => [0xFD#8, 0xCB#8, d, opByte (0x38 + r.code)]
  | .bitBAtIyd bit d => [0xFD#8, 0xCB#8, d, opByte (0x46 + 8 * bit.val)]
  | .bitBAtIydMirror bit d z => [0xFD#8, 0xCB#8, d, opByte (0x40 + 8 * bit.val + z.code)]
  | .resBAtIyd bit d => [0xFD#8, 0xCB#8, d, opByte (0x86 + 8 * bit.val)]
  | .ldRResBAtIyd bit d r => [0xFD#8, 0xCB#8, d, opByte (0x80 + 8 * bit.val + r.code)]
  | .setBAtIyd bit d => [0xFD#8, 0xCB#8, d, opByte (0xC6 + 8 * bit.val)]
  | .ldRSetBAtIyd bit d r => [0xFD#8, 0xCB#8, d, opByte (0xC0 + 8 * bit.val + r.code)]

/-- The bytes a step consumes for an instruction (R307): those of its encoding, one for an ignored prefix (R324). -/
def Instr.length (i : Instr) : Nat :=
  match i with
  | .ignoredDd _ => 1
  | .ignoredFd _ => 1
  | i => (encode i).length

/-- The opcode fetches (M1 cycles) of an instruction (10_state.md R112): one unprefixed, two prefixed, the displacement and final
opcode of a DD CB or FD CB instruction not among them; one for an ignored prefix or for a single prefix byte. -/
def Instr.m1Cycles (i : Instr) : Nat :=
  match i with
  | .ignoredDd _ => 1
  | .ignoredFd _ => 1
  | i =>
    match encode i with
    | b0 :: _ :: _ => if b0 = 0xCB#8 ∨ b0 = 0xED#8 ∨ b0 = 0xDD#8 ∨ b0 = 0xFD#8 then 2 else 1
    | _ => 1

/-- Whether the row of the instruction is documented (R326, the `documented` column). -/
def Instr.documented (i : Instr) : Bool := Sys2Proof.documented (encode i)

/-! ## The host's question -/

/-- Byte `k` of a number laid out first byte lowest, zero from bit `nbits` up. -/
def layByte (nbits w k : Nat) : Byte := if 8 * k < nbits then BitVec.ofNat 8 (w / 256 ^ k) else 0#8

/-- An instruction's bytes as the table numbers them, followed by zero bytes up to the longest instruction, 4 bytes (R307). -/
def layBytes (nbits w : Nat) : List Byte :=
  [layByte nbits w 0, layByte nbits w 1, layByte nbits w 2, layByte nbits w 3]

/-- The instruction the decoder reads from an instruction whose bits are `w`, the first byte in bits 7 to 0. -/
def decodeTableWord (nbits w : Nat) : Option Instr :=
  match decode (layBytes nbits w) with
  | .ok (i, _) => some i
  | .error _ => none

end Sys2Proof
end

