-- ==== Sys2Proof/Machine/Fetch.lean ====
section
/-! DEFINITION. Fetching one instruction: the prefix state machine (30_encoding.md R302 to R308), the policy on undocumented
encodings (R326; 60_exceptions.md R903), and the diagnostic preview (60_exceptions.md R935). -/

namespace Sys2Proof.Machine

/-- `FetchOpcode()`: an M1 cycle (R303). A failing read changes nothing. -/
def fetchOpcode (s : State) : Except Fault (Byte × State) :=
  match s.peek s.pc with
  | .ok b => .ok (b, { s with pc := s.pc + 1#16, r := refresh s.r, latch := b })
  | .error e => .error (e.toFault s)

/-- `FetchByte()`: an operand fetch, which does not change R (R304). -/
def fetchByte (s : State) : Except Fault (Byte × State) :=
  match s.peek s.pc with
  | .ok b => .ok (b, { s with pc := s.pc + 1#16 })
  | .error e => .error (e.toFault s)

/-- That many operand bytes, in increasing address order (R304, R305, R308). -/
def fetchBytes : Nat → State → Except Fault (List Byte × State)
  | 0, s => .ok ([], s)
  | n + 1, s => do
    let (b, s) ← fetchByte s
    let (bs, s) ← fetchBytes n s
    return (b :: bs, s)

/-- UnknownOpcode once the bytes that identify an undocumented encoding are known, where `UNDOC_POLICY` is `fault` (R326, log 13). -/
def checkPolicy (bytes : List Byte) (s : State) : Except Fault Unit :=
  if s.params.undocPolicy = .fault ∧ documented bytes = false then .error (.unknownOpcode bytes s) else .ok ()

/-- The end of a fetch: the policy on the identifying bytes, the operand bytes, the table entry. Every complete sequence has an
entry (R327), so the last fault is never raised (log 21). -/
def fetchOperands (bytes : List Byte) (n : Nat) (s : State) : Except Fault (Instr × State) := do
  checkPolicy bytes s
  let (rest, s) ← fetchBytes n s
  match decode (bytes ++ rest) with
  | .ok (i, _) => return (i, s)
  | .error _ => .error (.unknownOpcode (bytes ++ rest) s)

/-- After CB: the second opcode byte (R302, R317). -/
def fetchCb (s : State) : Except Fault (Instr × State) := do
  let (op, s) ← fetchOpcode s
  fetchOperands [0xCB#8, op] 0 s

/-- After ED (R302, R318). -/
def fetchEd (s : State) : Except Fault (Instr × State) := do
  let (op, s) ← fetchOpcode s
  fetchOperands [0xED#8, op] (edOperands op) s

/-- The prefix byte that selects an index register (R11, R320). -/
def xyByte (x : XY) : Byte := x.pick 0xDD#8 0xFD#8

/-- After DD CB or FD CB: the displacement, then the final opcode, neither an M1 cycle (R302, R319). -/
def fetchXyCb (x : XY) (s : State) : Except Fault (Instr × State) := do
  let (d, s) ← fetchByte s
  let (op, s) ← fetchByte s
  fetchOperands [xyByte x, 0xCB#8, d, op] 0 s

/-- After DD or FD: a look at the next byte; DD, ED or FD there makes this step the ignored prefix, with that byte not consumed
(R302, R323, R324). -/
def fetchXy (x : XY) (s : State) : Except Fault (Instr × State) :=
  match s.peek s.pc with
  | .error e => .error (e.toFault s)
  | .ok nxt =>
    if (ChainByte.ofByte nxt).isSome then fetchOperands [xyByte x, nxt] 0 s
    else do
      let (b1, s) ← fetchOpcode s
      if b1 = 0xCB#8 then fetchXyCb x s else fetchOperands [xyByte x, b1] (xyOperands b1) s

/-- One instruction at PC, all of its bytes fetched (R302, R308). -/
def fetchInstr (s : State) : Except Fault (Instr × State) := do
  let (b0, s) ← fetchOpcode s
  if b0 = 0xCB#8 then fetchCb s
  else if b0 = 0xED#8 then fetchEd s
  else if b0 = 0xDD#8 then fetchXy .ix s
  else if b0 = 0xFD#8 then fetchXy .iy s
  else fetchOperands [b0] (baseOperands b0) s

/-- The diagnostic preview: the same decode at any address, or the read fault, changing no state (R935). -/
def preview (s : State) (a : Word) : Except Fault Instr := do
  let (i, _) ← fetchInstr { s with pc := a }
  return i

/-! ## A program's bytes placed from outside (70_reset_and_hazards.md R955, log 15) -/

/-- Bytes stored at rising addresses, modulo 2^16. -/
def placeBytes (mem : Memory) (a : Word) : List Byte → Memory
  | [] => mem
  | b :: rest => placeBytes (mem.set a.toNat b) (a + 1#16) rest

/-- Every one of the `n` addresses from `a` on lies in RAM. -/
def ramFrom (bus : AddressSpace) (a : Word) : Nat → Bool
  | 0 => true
  | n + 1 => bus.isRam a && ramFrom bus (a + 1#16) n

/-- The step's input with no interrupt request, so that the step fetches (R910); an exhausted list is none already. -/
def quietInputs : List HostInput → List HostInput
  | [] => []
  | _ :: rest => HostInput.idle :: rest

/-- The bytes placed at PC, and no halt and no interrupt before they are fetched. Where PC does not address RAM the bus becomes one
RAM. -/
def State.place (s : State) (bytes : List Byte) : State :=
  { s with
    mem := placeBytes s.mem s.pc bytes
    bus := if ramFrom s.bus s.pc bytes.length then s.bus else AddressSpace.fullRam
    halted := false
    nmiPending := false
    inputs := quietInputs s.inputs }

end Sys2Proof.Machine
end

