-- ==== Sys2Proof/Machine/Io.lean ====
section
/-! DEFINITION. Input and output (49_io.md R852 to R866). -/

namespace Sys2Proof.Machine

/-- One block input: `t <- IoRead(BC); MemWrite(HL, 1, t)`, then B counted down, HL moved and
`k <- t + trunc8(C + 1)` or `trunc8(C - 1)` (R858, R860). -/
def blockIn (dir : Dir) (s : State) (k : State → Result) : Result :=
  let (t, s) := ioRead s s.bc
  storeByte s s.hl t fun s =>
    let s := { s with b := s.b - 1#8 }.setHl (dir.move s.hl)
    k (s.setFlags (blockIoFlags t s.b (t.toNat + (dir.move8 s.c).toNat)))

/-- One block output: the byte at HL, B counted down before the port is formed, HL moved, `k <- t + L` with the new L
(R862, R864). -/
def blockOut (dir : Dir) (s : State) (k : State → Result) : Result :=
  loadByte s s.hl fun t =>
    let s := { s with b := s.b - 1#8 }
    let s := (ioWrite s s.bc t).setHl (dir.move s.hl)
    k (s.setFlags (blockIoFlags t s.b (t.toNat + s.l.toNat)))

/-- The repeat condition of the block I/O instructions: `B != 0` (R866). -/
def ioRepeats (s : State) : Bool := s.b != 0#8

/-- `IN A,(n)` (R852). The port uses A before the instruction. -/
def execInAAtN (n : Byte) (s : State) : Result :=
  let (v, s) := ioRead s (portAn s n)
  .next ({ s with a := v }.tick 11)

/-- `IN r,(C)` (R853). -/
def execInRAtC (r : Reg8) (s : State) : Result :=
  let (v, s) := ioRead s s.bc
  .next (((s.setReg r v).setFlags (inputFlags v s.flags)).tick 12)

/-- `IN F,(C)` (R854, undocumented). No register receives the byte. -/
def execInFAtC (s : State) : Result :=
  let (v, s) := ioRead s s.bc
  .next ((s.setFlags (inputFlags v s.flags)).tick 12)

/-- `OUT (n),A` (R855). -/
def execOutAtNA (n : Byte) (s : State) : Result :=
  .next ((ioWrite s (portAn s n) s.a).tick 11)

/-- `OUT (C),r` (R856). -/
def execOutAtCR (r : Reg8) (s : State) : Result :=
  .next ((ioWrite s s.bc (s.reg r)).tick 12)

/-- `OUT (C),0` (R857, undocumented). -/
def execOutAtC0 (s : State) : Result :=
  .next ((ioWrite s s.bc (outC0Value s.params)).tick 12)

/-- `INI` (R858). -/
def execIni (s : State) : Result :=
  blockIn .up s fun s => .next (s.tick 16)

/-- `IND` (R860). -/
def execInd (s : State) : Result :=
  blockIn .down s fun s => .next (s.tick 16)

/-- `OUTI` (R862). -/
def execOuti (s : State) : Result :=
  blockOut .up s fun s => .next (s.tick 16)

/-- `OUTD` (R864). -/
def execOutd (s : State) : Result :=
  blockOut .down s fun s => .next (s.tick 16)

/-- `INIR` (R859). -/
def execInir (s : State) : Result :=
  blockIn .up s fun s => .next (repeatBlockIo (ioRepeats s) s)

/-- `INDR` (R861). -/
def execIndr (s : State) : Result :=
  blockIn .down s fun s => .next (repeatBlockIo (ioRepeats s) s)

/-- `OTIR` (R863). -/
def execOtir (s : State) : Result :=
  blockOut .up s fun s => .next (repeatBlockIo (ioRepeats s) s)

/-- `OTDR` (R865). -/
def execOtdr (s : State) : Result :=
  blockOut .down s fun s => .next (repeatBlockIo (ioRepeats s) s)

end Sys2Proof.Machine
end

