-- ==== Sys2Proof/Machine/Jump.lean ====
section
/-! DEFINITION. Jumps, calls, returns and restarts (48_jump_call_return.md R800 to R822). PC on entry is the address after the
instruction (R308). No instruction here changes a flag. -/

namespace Sys2Proof.Machine

/-- `PC <- v`. -/
def jump (s : State) (v : Word) (cycles : Nat) : Result := .next ({ s with pc := v }.tick cycles)

/-- `Push16(PC); PC <- v` (R810, R822). -/
def call (s : State) (v : Word) (cycles : Nat) : Result := push16 s s.pc fun s => jump s v cycles

/-- `PC <- Pop16()` (R815). -/
def popPc (s : State) (cycles : Nat) : Result := pop16 s fun v s => jump s v cycles

/-- `JP nn` (R800). -/
def execJpNn (nn : Word) (s : State) : Result :=
  jump s nn 10

/-- `JP cc,nn` (R801). -/
def execJpCcNn (cc : Cond) (nn : Word) (s : State) : Result :=
  if s.cond cc then jump s nn 10 else .next (s.tick 10)

/-- `JR e` (R802). -/
def execJrE (d : Byte) (s : State) : Result :=
  jump s (relTarget s d) 12

/-- `JR cc,e` (R803). -/
def execJrCcE (cc : RelCond) (d : Byte) (s : State) : Result :=
  if s.cond (condOf cc) then jump s (relTarget s d) 12 else .next (s.tick 7)

/-- `JP (HL)` (R804). -/
def execJpHl (s : State) : Result :=
  jump s s.hl 4

/-- `JP (IX)` (R805). -/
def execJpIx (s : State) : Result :=
  jump s s.ix 8

/-- `JP (IY)` (R805). -/
def execJpIy (s : State) : Result :=
  jump s s.iy 8

/-- `DJNZ e` (R806). -/
def execDjnzE (d : Byte) (s : State) : Result :=
  let s := { s with b := s.b - 1#8 }
  if s.b != 0#8 then jump s (relTarget s d) 13 else .next (s.tick 8)

/-- `CALL nn` (R810). -/
def execCallNn (nn : Word) (s : State) : Result :=
  call s nn 17

/-- `CALL cc,nn` (R811). -/
def execCallCcNn (cc : Cond) (nn : Word) (s : State) : Result :=
  if s.cond cc then call s nn 17 else .next (s.tick 10)

/-- `RET` (R815). -/
def execRet (s : State) : Result :=
  popPc s 10

/-- `RET cc` (R816). -/
def execRetCc (cc : Cond) (s : State) : Result :=
  if s.cond cc then popPc s 11 else .next (s.tick 5)

/-- `RETI` (R817). -/
def execReti (s : State) : Result :=
  returnFromInterrupt s

/-- `RETN` (R818). -/
def execRetn (s : State) : Result :=
  returnFromInterrupt s

/-- `RETN (mirror)` (R818, undocumented). -/
def execRetnMirror (_y : Fin 8) (s : State) : Result :=
  returnFromInterrupt s

/-- `RST p` (R822). -/
def execRstP (t : Fin 8) (s : State) : Result :=
  call s (restartTarget t) 11

end Sys2Proof.Machine
end

