-- ==== Sys2Proof/Machine/Load16.lean ====
section
/-! DEFINITION. 16-bit loads, push and pop (41_load16.md R450 to R463). No instruction here changes a flag except `POP AF`. -/

namespace Sys2Proof.Machine

/-- `LD rp,nn` (R450). -/
def execLdRpNn (rp : RegPair) (nn : Word) (s : State) : Result :=
  .next ((s.setPair rp nn).tick 10)

/-- `LD HL,(nn)` (R452). -/
def execLdHlAtNn (nn : Word) (s : State) : Result :=
  loadWord s nn fun v => .next ((s.setHl v).tick 16)

/-- `LD rp,(nn)` (R453). -/
def execLdRpAtNn (rp : RegPair) (nn : Word) (s : State) : Result :=
  loadWord s nn fun v => .next ((s.setPair rp v).tick 20)

/-- `LD HL,(nn) (ED form)` (R453, undocumented). -/
def execLdHlAtNnEd (nn : Word) (s : State) : Result :=
  loadWord s nn fun v => .next ((s.setHl v).tick 20)

/-- `LD (nn),HL` (R455). -/
def execLdAtNnHl (nn : Word) (s : State) : Result :=
  storeWord s nn s.hl fun s => .next (s.tick 16)

/-- `LD (nn),rp` (R456). -/
def execLdAtNnRp (nn : Word) (rp : RegPair) (s : State) : Result :=
  storeWord s nn (s.pairOf rp) fun s => .next (s.tick 20)

/-- `LD (nn),HL (ED form)` (R456, undocumented). -/
def execLdAtNnHlEd (nn : Word) (s : State) : Result :=
  storeWord s nn s.hl fun s => .next (s.tick 20)

/-- `LD SP,HL` (R458). -/
def execLdSpHl (s : State) : Result :=
  .next ({ s with sp := s.hl }.tick 6)

/-- `PUSH rp2` (R460). -/
def execPushRp2 (rp : StackPair) (s : State) : Result :=
  push16 s (s.stackPair rp) fun s => .next (s.tick 11)

/-- `POP rp2` (R462). -/
def execPopRp2 (rp : StackPair) (s : State) : Result :=
  pop16 s fun v s => .next ((s.setStackPair rp v).tick 10)

/-- `LD IX,nn` (R451). -/
def execLdIxNn (nn : Word) (s : State) : Result :=
  .next ((s.setXy .ix nn).tick 14)

/-- `LD IX,(nn)` (R454). -/
def execLdIxAtNn (nn : Word) (s : State) : Result :=
  loadWord s nn fun v => .next ((s.setXy .ix v).tick 20)

/-- `LD (nn),IX` (R457). -/
def execLdAtNnIx (nn : Word) (s : State) : Result :=
  storeWord s nn s.ix fun s => .next (s.tick 20)

/-- `LD SP,IX` (R459). -/
def execLdSpIx (s : State) : Result :=
  .next ({ s with sp := s.ix }.tick 10)

/-- `PUSH IX` (R461). -/
def execPushIx (s : State) : Result :=
  push16 s s.ix fun s => .next (s.tick 15)

/-- `POP IX` (R463). -/
def execPopIx (s : State) : Result :=
  pop16 s fun v s => .next ((s.setXy .ix v).tick 14)

/-- `LD IY,nn` (R451). -/
def execLdIyNn (nn : Word) (s : State) : Result :=
  .next ((s.setXy .iy nn).tick 14)

/-- `LD IY,(nn)` (R454). -/
def execLdIyAtNn (nn : Word) (s : State) : Result :=
  loadWord s nn fun v => .next ((s.setXy .iy v).tick 20)

/-- `LD (nn),IY` (R457). -/
def execLdAtNnIy (nn : Word) (s : State) : Result :=
  storeWord s nn s.iy fun s => .next (s.tick 20)

/-- `LD SP,IY` (R459). -/
def execLdSpIy (s : State) : Result :=
  .next ({ s with sp := s.iy }.tick 10)

/-- `PUSH IY` (R461). -/
def execPushIy (s : State) : Result :=
  push16 s s.iy fun s => .next (s.tick 15)

/-- `POP IY` (R463). -/
def execPopIy (s : State) : Result :=
  pop16 s fun v s => .next ((s.setXy .iy v).tick 14)

end Sys2Proof.Machine
end

