-- ==== Sys2Proof/Machine/Load8.lean ====
section
/-! DEFINITION. 8-bit loads (40_load8.md R400 to R419). No 8-bit load changes a flag except `LD A,I` and `LD A,R`. -/

namespace Sys2Proof.Machine

/-- `v <- MemRead(a, 1); reg8[r] <- v`: the loads of one register from memory. -/
def loadReg (s : State) (r : Reg8) (a : Word) (cycles : Nat) : Result :=
  loadByte s a fun v => .next ((s.setReg r v).tick cycles)

/-- `MemWrite(a, 1, v)`: the stores of one byte. -/
def storeAt (s : State) (a : Word) (v : Byte) (cycles : Nat) : Result :=
  storeByte s a v fun s => .next (s.tick cycles)

/-- `A <- v; sz53(A); H <- 0; N <- 0; PV <- IFF2`: A from I or R (R414, R415). -/
def loadSpecial (s : State) (v : Byte) : Result :=
  .next (({ s with a := v }.setFlags { sz53 v s.flags with h := false, n := false, pv := s.iff2 }).tick 9)

/-- `LD r,s` (R400). -/
def execLdRS (r src : Reg8) (s : State) : Result :=
  .next ((s.setReg r (s.reg src)).tick 4)

/-- `LD r,n` (R401). -/
def execLdRN (r : Reg8) (n : Byte) (s : State) : Result :=
  .next ((s.setReg r n).tick 7)

/-- `LD r,(HL)` (R402). -/
def execLdRAtHl (r : Reg8) (s : State) : Result :=
  loadReg s r s.hl 7

/-- `LD (HL),s` (R404). -/
def execLdAtHlS (src : Reg8) (s : State) : Result :=
  storeAt s s.hl (s.reg src) 7

/-- `LD (HL),n` (R406). -/
def execLdAtHlN (n : Byte) (s : State) : Result :=
  storeAt s s.hl n 10

/-- `LD A,(BC)` (R408). -/
def execLdAAtBc (s : State) : Result :=
  loadReg s .a s.bc 7

/-- `LD A,(DE)` (R409). -/
def execLdAAtDe (s : State) : Result :=
  loadReg s .a s.de 7

/-- `LD A,(nn)` (R410). -/
def execLdAAtNn (nn : Word) (s : State) : Result :=
  loadReg s .a nn 13

/-- `LD (BC),A` (R411). -/
def execLdAtBcA (s : State) : Result :=
  storeAt s s.bc s.a 7

/-- `LD (DE),A` (R412). -/
def execLdAtDeA (s : State) : Result :=
  storeAt s s.de s.a 7

/-- `LD (nn),A` (R413). -/
def execLdAtNnA (nn : Word) (s : State) : Result :=
  storeAt s nn s.a 13

/-- `LD A,I` (R414). -/
def execLdAI (s : State) : Result :=
  loadSpecial s s.i

/-- `LD A,R` (R415). R has counted this instruction's two opcode fetches. -/
def execLdAR (s : State) : Result :=
  loadSpecial s s.r

/-- `LD I,A` (R416). -/
def execLdIA (s : State) : Result :=
  .next ({ s with i := s.a }.tick 9)

/-- `LD R,A` (R417). After the two opcode fetches, so R is A exactly. -/
def execLdRA (s : State) : Result :=
  .next ({ s with r := s.a }.tick 9)

/-- `LD r,s with IXH/IXL` (R418, undocumented). -/
def execLdRSIxHalf (r src : RegX) (s : State) : Result :=
  .next ((s.setRegX .ix r (s.regX .ix src)).tick 8)

/-- `LD IXH/IXL,n` (R419, undocumented). -/
def execLdIxHalfN (half : Half) (n : Byte) (s : State) : Result :=
  .next ((s.setHalf .ix half n).tick 11)

/-- `LD r,(IX+d)` (R403). -/
def execLdRAtIxd (r : Reg8) (d : Byte) (s : State) : Result :=
  loadReg s r (indexed s .ix d) 19

/-- `LD (IX+d),s` (R405). -/
def execLdAtIxdS (d : Byte) (src : Reg8) (s : State) : Result :=
  storeAt s (indexed s .ix d) (s.reg src) 19

/-- `LD (IX+d),n` (R407). -/
def execLdAtIxdN (d n : Byte) (s : State) : Result :=
  storeAt s (indexed s .ix d) n 19

/-- `LD r,s with IYH/IYL` (R418, undocumented). -/
def execLdRSIyHalf (r src : RegX) (s : State) : Result :=
  .next ((s.setRegX .iy r (s.regX .iy src)).tick 8)

/-- `LD IYH/IYL,n` (R419, undocumented). -/
def execLdIyHalfN (half : Half) (n : Byte) (s : State) : Result :=
  .next ((s.setHalf .iy half n).tick 11)

/-- `LD r,(IY+d)` (R403). -/
def execLdRAtIyd (r : Reg8) (d : Byte) (s : State) : Result :=
  loadReg s r (indexed s .iy d) 19

/-- `LD (IY+d),s` (R405). -/
def execLdAtIydS (d : Byte) (src : Reg8) (s : State) : Result :=
  storeAt s (indexed s .iy d) (s.reg src) 19

/-- `LD (IY+d),n` (R407). -/
def execLdAtIydN (d n : Byte) (s : State) : Result :=
  storeAt s (indexed s .iy d) n 19

end Sys2Proof.Machine
end

