-- ==== Sys2Proof/Machine/RotateShift.lean ====
section
/-! DEFINITION. Rotates and shifts (46_rotate_shift.md R700 to R715). -/

namespace Sys2Proof.Machine

/-- An accumulator rotate (R700 to R703). -/
def rotateA (op : RotOp) (s : State) : Result :=
  let out := rotA op s.a s.flags
  .next (({ s with a := out.1 }.setFlags out.2).tick 4)

/-- `reg8[r] <- Rot(op, reg8[r])` (R704). -/
def rotateReg (op : RotOp) (s : State) (r : Reg8) : Result :=
  let out := rot op (s.reg r) s.flags
  .next (((s.setReg r out.1).setFlags out.2).tick 8)

/-- `Rot(op, ·)` on a byte in memory, F after the write (R704). -/
def rotateAt (op : RotOp) (s : State) (a : Word) (cycles : Nat) : Result :=
  modifyFlags s a (rot op) fun _ s => .next (s.tick cycles)

/-- The copy form: the result also goes to a plain register, after the write (R713). -/
def rotateCopy (op : RotOp) (s : State) (a : Word) (r : Reg8) : Result :=
  modifyFlags s a (rot op) fun res s => .next ((s.setReg r res).tick 23)

/-- RLD and RRD: the new byte to HL, then the new low digit of A and its flags (R714, R715). -/
def rotateDigit (s : State) (newByte lowDigit : Byte → Byte) : Result :=
  loadByte s s.hl fun v => storeByte s s.hl (newByte v) fun s =>
    let a := (s.a &&& 0xF0#8) ||| lowDigit v
    .next (({ s with a := a }.setFlags (inputFlags a s.flags)).tick 18)

/-- `RLCA` (R700). -/
def execRlca (s : State) : Result :=
  rotateA .rlc s

/-- `RLA` (R701). -/
def execRla (s : State) : Result :=
  rotateA .rl s

/-- `RRCA` (R702). -/
def execRrca (s : State) : Result :=
  rotateA .rrc s

/-- `RRA` (R703). -/
def execRra (s : State) : Result :=
  rotateA .rr s

/-- `RLC r` (R705). -/
def execRlcR (r : Reg8) (s : State) : Result :=
  rotateReg .rlc s r

/-- `RLC (HL)` (R705). -/
def execRlcAtHl (s : State) : Result :=
  rotateAt .rlc s s.hl 15

/-- `RLC (IX+d)` (R705). -/
def execRlcAtIxd (d : Byte) (s : State) : Result :=
  rotateAt .rlc s (indexed s .ix d) 23

/-- `LD r,RLC (IX+d)` (R705, R713, undocumented). -/
def execLdRRlcAtIxd (d : Byte) (r : Reg8) (s : State) : Result :=
  rotateCopy .rlc s (indexed s .ix d) r

/-- `RLC (IY+d)` (R705). -/
def execRlcAtIyd (d : Byte) (s : State) : Result :=
  rotateAt .rlc s (indexed s .iy d) 23

/-- `LD r,RLC (IY+d)` (R705, R713, undocumented). -/
def execLdRRlcAtIyd (d : Byte) (r : Reg8) (s : State) : Result :=
  rotateCopy .rlc s (indexed s .iy d) r

/-- `RRC r` (R706). -/
def execRrcR (r : Reg8) (s : State) : Result :=
  rotateReg .rrc s r

/-- `RRC (HL)` (R706). -/
def execRrcAtHl (s : State) : Result :=
  rotateAt .rrc s s.hl 15

/-- `RRC (IX+d)` (R706). -/
def execRrcAtIxd (d : Byte) (s : State) : Result :=
  rotateAt .rrc s (indexed s .ix d) 23

/-- `LD r,RRC (IX+d)` (R706, R713, undocumented). -/
def execLdRRrcAtIxd (d : Byte) (r : Reg8) (s : State) : Result :=
  rotateCopy .rrc s (indexed s .ix d) r

/-- `RRC (IY+d)` (R706). -/
def execRrcAtIyd (d : Byte) (s : State) : Result :=
  rotateAt .rrc s (indexed s .iy d) 23

/-- `LD r,RRC (IY+d)` (R706, R713, undocumented). -/
def execLdRRrcAtIyd (d : Byte) (r : Reg8) (s : State) : Result :=
  rotateCopy .rrc s (indexed s .iy d) r

/-- `RL r` (R707). -/
def execRlR (r : Reg8) (s : State) : Result :=
  rotateReg .rl s r

/-- `RL (HL)` (R707). -/
def execRlAtHl (s : State) : Result :=
  rotateAt .rl s s.hl 15

/-- `RL (IX+d)` (R707). -/
def execRlAtIxd (d : Byte) (s : State) : Result :=
  rotateAt .rl s (indexed s .ix d) 23

/-- `LD r,RL (IX+d)` (R707, R713, undocumented). -/
def execLdRRlAtIxd (d : Byte) (r : Reg8) (s : State) : Result :=
  rotateCopy .rl s (indexed s .ix d) r

/-- `RL (IY+d)` (R707). -/
def execRlAtIyd (d : Byte) (s : State) : Result :=
  rotateAt .rl s (indexed s .iy d) 23

/-- `LD r,RL (IY+d)` (R707, R713, undocumented). -/
def execLdRRlAtIyd (d : Byte) (r : Reg8) (s : State) : Result :=
  rotateCopy .rl s (indexed s .iy d) r

/-- `RR r` (R708). -/
def execRrR (r : Reg8) (s : State) : Result :=
  rotateReg .rr s r

/-- `RR (HL)` (R708). -/
def execRrAtHl (s : State) : Result :=
  rotateAt .rr s s.hl 15

/-- `RR (IX+d)` (R708). -/
def execRrAtIxd (d : Byte) (s : State) : Result :=
  rotateAt .rr s (indexed s .ix d) 23

/-- `LD r,RR (IX+d)` (R708, R713, undocumented). -/
def execLdRRrAtIxd (d : Byte) (r : Reg8) (s : State) : Result :=
  rotateCopy .rr s (indexed s .ix d) r

/-- `RR (IY+d)` (R708). -/
def execRrAtIyd (d : Byte) (s : State) : Result :=
  rotateAt .rr s (indexed s .iy d) 23

/-- `LD r,RR (IY+d)` (R708, R713, undocumented). -/
def execLdRRrAtIyd (d : Byte) (r : Reg8) (s : State) : Result :=
  rotateCopy .rr s (indexed s .iy d) r

/-- `SLA r` (R709). -/
def execSlaR (r : Reg8) (s : State) : Result :=
  rotateReg .sla s r

/-- `SLA (HL)` (R709). -/
def execSlaAtHl (s : State) : Result :=
  rotateAt .sla s s.hl 15

/-- `SLA (IX+d)` (R709). -/
def execSlaAtIxd (d : Byte) (s : State) : Result :=
  rotateAt .sla s (indexed s .ix d) 23

/-- `LD r,SLA (IX+d)` (R709, R713, undocumented). -/
def execLdRSlaAtIxd (d : Byte) (r : Reg8) (s : State) : Result :=
  rotateCopy .sla s (indexed s .ix d) r

/-- `SLA (IY+d)` (R709). -/
def execSlaAtIyd (d : Byte) (s : State) : Result :=
  rotateAt .sla s (indexed s .iy d) 23

/-- `LD r,SLA (IY+d)` (R709, R713, undocumented). -/
def execLdRSlaAtIyd (d : Byte) (r : Reg8) (s : State) : Result :=
  rotateCopy .sla s (indexed s .iy d) r

/-- `SRA r` (R710). -/
def execSraR (r : Reg8) (s : State) : Result :=
  rotateReg .sra s r

/-- `SRA (HL)` (R710). -/
def execSraAtHl (s : State) : Result :=
  rotateAt .sra s s.hl 15

/-- `SRA (IX+d)` (R710). -/
def execSraAtIxd (d : Byte) (s : State) : Result :=
  rotateAt .sra s (indexed s .ix d) 23

/-- `LD r,SRA (IX+d)` (R710, R713, undocumented). -/
def execLdRSraAtIxd (d : Byte) (r : Reg8) (s : State) : Result :=
  rotateCopy .sra s (indexed s .ix d) r

/-- `SRA (IY+d)` (R710). -/
def execSraAtIyd (d : Byte) (s : State) : Result :=
  rotateAt .sra s (indexed s .iy d) 23

/-- `LD r,SRA (IY+d)` (R710, R713, undocumented). -/
def execLdRSraAtIyd (d : Byte) (r : Reg8) (s : State) : Result :=
  rotateCopy .sra s (indexed s .iy d) r

/-- `SLL r` (R711, undocumented). -/
def execSllR (r : Reg8) (s : State) : Result :=
  rotateReg .sll s r

/-- `SLL (HL)` (R711, undocumented). -/
def execSllAtHl (s : State) : Result :=
  rotateAt .sll s s.hl 15

/-- `SLL (IX+d)` (R711, undocumented). -/
def execSllAtIxd (d : Byte) (s : State) : Result :=
  rotateAt .sll s (indexed s .ix d) 23

/-- `LD r,SLL (IX+d)` (R711, R713, undocumented). -/
def execLdRSllAtIxd (d : Byte) (r : Reg8) (s : State) : Result :=
  rotateCopy .sll s (indexed s .ix d) r

/-- `SLL (IY+d)` (R711, undocumented). -/
def execSllAtIyd (d : Byte) (s : State) : Result :=
  rotateAt .sll s (indexed s .iy d) 23

/-- `LD r,SLL (IY+d)` (R711, R713, undocumented). -/
def execLdRSllAtIyd (d : Byte) (r : Reg8) (s : State) : Result :=
  rotateCopy .sll s (indexed s .iy d) r

/-- `SRL r` (R712). -/
def execSrlR (r : Reg8) (s : State) : Result :=
  rotateReg .srl s r

/-- `SRL (HL)` (R712). -/
def execSrlAtHl (s : State) : Result :=
  rotateAt .srl s s.hl 15

/-- `SRL (IX+d)` (R712). -/
def execSrlAtIxd (d : Byte) (s : State) : Result :=
  rotateAt .srl s (indexed s .ix d) 23

/-- `LD r,SRL (IX+d)` (R712, R713, undocumented). -/
def execLdRSrlAtIxd (d : Byte) (r : Reg8) (s : State) : Result :=
  rotateCopy .srl s (indexed s .ix d) r

/-- `SRL (IY+d)` (R712). -/
def execSrlAtIyd (d : Byte) (s : State) : Result :=
  rotateAt .srl s (indexed s .iy d) 23

/-- `LD r,SRL (IY+d)` (R712, R713, undocumented). -/
def execLdRSrlAtIyd (d : Byte) (r : Reg8) (s : State) : Result :=
  rotateCopy .srl s (indexed s .iy d) r

/-- `RLD` (R714). -/
def execRld (s : State) : Result :=
  rotateDigit s (fun v => (v <<< 4) ||| (s.a &&& 0x0F#8)) fun v => v >>> 4

/-- `RRD` (R715). -/
def execRrd (s : State) : Result :=
  rotateDigit s (fun v => (s.a <<< 4) ||| (v >>> 4)) fun v => v &&& 0x0F#8

end Sys2Proof.Machine
end

