-- ==== Sys2Proof/Machine/Prefix.lean ====
section
/-! DEFINITION. The prefix rows of the opcode table (30_encoding.md R302, R312 format P, R323, R324), and what the end of a step
records about the instruction it ran (R300). -/

namespace Sys2Proof.Machine

/-- The unprefixed instruction a DD or FD stands before runs "exactly as its own rule says" (R323). The other rows never stand
there (WellFormed.lean); they end in UnknownOpcode. -/
def execUnprefixed (i : Instr) (s : State) : Result :=
  match i with
  | .nop => execNop s
  | .ldRpNn rp nn => execLdRpNn rp nn s
  | .addHlRp rp => execAddHlRp rp s
  | .ldAtBcA => execLdAtBcA s
  | .ldAtDeA => execLdAtDeA s
  | .ldAtNnHl nn => execLdAtNnHl nn s
  | .ldAtNnA nn => execLdAtNnA nn s
  | .ldAAtBc => execLdAAtBc s
  | .ldAAtDe => execLdAAtDe s
  | .ldHlAtNn nn => execLdHlAtNn nn s
  | .ldAAtNn nn => execLdAAtNn nn s
  | .incRp rp => execIncRp rp s
  | .decRp rp => execDecRp rp s
  | .incR r => execIncR r s
  | .incAtHl => execIncAtHl s
  | .decR r => execDecR r s
  | .decAtHl => execDecAtHl s
  | .ldRN r n => execLdRN r n s
  | .ldAtHlN n => execLdAtHlN n s
  | .rlca => execRlca s
  | .rrca => execRrca s
  | .rla => execRla s
  | .rra => execRra s
  | .daa => execDaa s
  | .cpl => execCpl s
  | .scf => execScf s
  | .ccf => execCcf s
  | .exAfAf => execExAfAf s
  | .ret => execRet s
  | .exx => execExx s
  | .jpHl => execJpHl s
  | .ldSpHl => execLdSpHl s
  | .exDeHl => execExDeHl s
  | .di => execDi s
  | .ei => execEi s
  | .halt => execHalt s
  | .djnzE d => execDjnzE d s
  | .jrE d => execJrE d s
  | .jrCcE cc d => execJrCcE cc d s
  | .ldRS r src => execLdRS r src s
  | .ldRAtHl r => execLdRAtHl r s
  | .ldAtHlS src => execLdAtHlS src s
  | .addAS src => execAddAS src s
  | .addAAtHl => execAddAAtHl s
  | .addAN n => execAddAN n s
  | .adcAS src => execAdcAS src s
  | .adcAAtHl => execAdcAAtHl s
  | .adcAN n => execAdcAN n s
  | .subS src => execSubS src s
  | .subAtHl => execSubAtHl s
  | .subN n => execSubN n s
  | .sbcAS src => execSbcAS src s
  | .sbcAAtHl => execSbcAAtHl s
  | .sbcAN n => execSbcAN n s
  | .andS src => execAndS src s
  | .andAtHl => execAndAtHl s
  | .andN n => execAndN n s
  | .xorS src => execXorS src s
  | .xorAtHl => execXorAtHl s
  | .xorN n => execXorN n s
  | .orS src => execOrS src s
  | .orAtHl => execOrAtHl s
  | .orN n => execOrN n s
  | .cpS src => execCpS src s
  | .cpAtHl => execCpAtHl s
  | .cpN n => execCpN n s
  | .retCc cc => execRetCc cc s
  | .popRp2 rp => execPopRp2 rp s
  | .jpCcNn cc nn => execJpCcNn cc nn s
  | .jpNn nn => execJpNn nn s
  | .outAtNA n => execOutAtNA n s
  | .inAAtN n => execInAAtN n s
  | .exAtSpHl => execExAtSpHl s
  | .callCcNn cc nn => execCallCcNn cc nn s
  | .pushRp2 rp => execPushRp2 rp s
  | .callNn nn => execCallNn nn s
  | .rstP t => execRstP t s
  | .prefixCb | .prefixEd | .prefixDd | .prefixFd | .rlcR .. | .rlcAtHl | .rrcR .. | .rrcAtHl | .rlR .. | .rlAtHl
  | .rrR .. | .rrAtHl | .slaR .. | .slaAtHl | .sraR .. | .sraAtHl | .sllR .. | .sllAtHl | .srlR .. | .srlAtHl
  | .bitBR .. | .bitBAtHl .. | .resBR .. | .resBAtHl .. | .setBR .. | .setBAtHl .. | .inRAtC .. | .inFAtC
  | .outAtCR .. | .outAtC0 | .sbcHlRp .. | .adcHlRp .. | .ldAtNnRp .. | .ldAtNnHlEd .. | .ldRpAtNn .. | .ldHlAtNnEd ..
  | .neg | .negMirror .. | .retn | .retnMirror .. | .reti | .im0 | .im0Mirror | .im1 | .im1Mirror | .im2 | .im2Mirror
  | .im01 .. | .ldIA | .ldRA | .ldAI | .ldAR | .rrd | .rld | .nopEd7 .. | .ldi | .cpi | .ini | .outi | .ldd | .cpd
  | .ind | .outd | .ldir | .cpir | .inir | .otir | .lddr | .cpdr | .indr | .otdr | .nopEd .. | .addIxRp ..
  | .ldIxNn .. | .ldAtNnIx .. | .ldIxAtNn .. | .incIx | .decIx | .incIxHalf .. | .decIxHalf .. | .ldIxHalfN ..
  | .incAtIxd .. | .decAtIxd .. | .ldAtIxdN .. | .ldRAtIxd .. | .ldAtIxdS .. | .ldRSIxHalf .. | .addAIxHalf ..
  | .addAAtIxd .. | .adcAIxHalf .. | .adcAAtIxd .. | .subIxHalf .. | .subAtIxd .. | .sbcAIxHalf .. | .sbcAAtIxd ..
  | .andIxHalf .. | .andAtIxd .. | .xorIxHalf .. | .xorAtIxd .. | .orIxHalf .. | .orAtIxd .. | .cpIxHalf ..
  | .cpAtIxd .. | .popIx | .exAtSpIx | .pushIx | .jpIx | .ldSpIx | .prefixDdCb | .ignoredDd .. | .ddUnprefixed ..
  | .addIyRp .. | .ldIyNn .. | .ldAtNnIy .. | .ldIyAtNn .. | .incIy | .decIy | .incIyHalf .. | .decIyHalf ..
  | .ldIyHalfN .. | .incAtIyd .. | .decAtIyd .. | .ldAtIydN .. | .ldRAtIyd .. | .ldAtIydS .. | .ldRSIyHalf ..
  | .addAIyHalf .. | .addAAtIyd .. | .adcAIyHalf .. | .adcAAtIyd .. | .subIyHalf .. | .subAtIyd .. | .sbcAIyHalf ..
  | .sbcAAtIyd .. | .andIyHalf .. | .andAtIyd .. | .xorIyHalf .. | .xorAtIyd .. | .orIyHalf .. | .orAtIyd ..
  | .cpIyHalf .. | .cpAtIyd .. | .popIy | .exAtSpIy | .pushIy | .jpIy | .ldSpIy | .prefixFdCb | .ignoredFd ..
  | .fdUnprefixed .. | .rlcAtIxd .. | .ldRRlcAtIxd .. | .rrcAtIxd .. | .ldRRrcAtIxd .. | .rlAtIxd .. | .ldRRlAtIxd ..
  | .rrAtIxd .. | .ldRRrAtIxd .. | .slaAtIxd .. | .ldRSlaAtIxd .. | .sraAtIxd .. | .ldRSraAtIxd .. | .sllAtIxd ..
  | .ldRSllAtIxd .. | .srlAtIxd .. | .ldRSrlAtIxd .. | .bitBAtIxd .. | .bitBAtIxdMirror .. | .resBAtIxd ..
  | .ldRResBAtIxd .. | .setBAtIxd .. | .ldRSetBAtIxd .. | .rlcAtIyd .. | .ldRRlcAtIyd .. | .rrcAtIyd ..
  | .ldRRrcAtIyd .. | .rlAtIyd .. | .ldRRlAtIyd .. | .rrAtIyd .. | .ldRRrAtIyd .. | .slaAtIyd .. | .ldRSlaAtIyd ..
  | .sraAtIyd .. | .ldRSraAtIyd .. | .sllAtIyd .. | .ldRSllAtIyd .. | .srlAtIyd .. | .ldRSrlAtIyd .. | .bitBAtIyd ..
  | .bitBAtIydMirror .. | .resBAtIyd .. | .ldRResBAtIyd .. | .setBAtIyd .. | .ldRSetBAtIyd .. =>
    .fault (.unknownOpcode (encode i) s)

/-- The ignored prefix: 4 T-states and no other effect (R324); the step then sets int_block (`endOf`). -/
def ignoredPrefix (s : State) : Result := .next (s.tick 4)

/-- Four T-states more than the instruction's own rule gives (R323, R971). -/
def addPrefixCycles (res : Result) : Result := andThen res fun s => .next (s.tick (s.cycles + 4))

/-- `ignored prefix DD` (R324, undocumented). -/
def execIgnoredDd (_next : ChainByte) (s : State) : Result :=
  ignoredPrefix s

/-- `ignored prefix FD` (R324, undocumented). -/
def execIgnoredFd (_next : ChainByte) (s : State) : Result :=
  ignoredPrefix s

/-- `DD + unprefixed opcode` (R323, undocumented). -/
def execDdUnprefixed (inner : Instr) (s : State) : Result :=
  addPrefixCycles (execUnprefixed inner s)

/-- `FD + unprefixed opcode` (R323, undocumented). -/
def execFdUnprefixed (inner : Instr) (s : State) : Result :=
  addPrefixCycles (execUnprefixed inner s)

/-- Every row but the six prefix rows, which the tails of R302 never give. -/
def execRow (i : Instr) (s : State) : Result :=
  match i with
  | .nop | .ldRpNn .. | .addHlRp .. | .ldAtBcA | .ldAtDeA | .ldAtNnHl .. | .ldAtNnA .. | .ldAAtBc | .ldAAtDe
  | .ldHlAtNn .. | .ldAAtNn .. | .incRp .. | .decRp .. | .incR .. | .incAtHl | .decR .. | .decAtHl | .ldRN ..
  | .ldAtHlN .. | .rlca | .rrca | .rla | .rra | .daa | .cpl | .scf | .ccf | .exAfAf | .ret | .exx | .jpHl | .ldSpHl
  | .exDeHl | .di | .ei | .halt | .djnzE .. | .jrE .. | .jrCcE .. | .ldRS .. | .ldRAtHl .. | .ldAtHlS .. | .addAS ..
  | .addAAtHl | .addAN .. | .adcAS .. | .adcAAtHl | .adcAN .. | .subS .. | .subAtHl | .subN .. | .sbcAS .. | .sbcAAtHl
  | .sbcAN .. | .andS .. | .andAtHl | .andN .. | .xorS .. | .xorAtHl | .xorN .. | .orS .. | .orAtHl | .orN ..
  | .cpS .. | .cpAtHl | .cpN .. | .retCc .. | .popRp2 .. | .jpCcNn .. | .jpNn .. | .outAtNA .. | .inAAtN ..
  | .exAtSpHl | .callCcNn .. | .pushRp2 .. | .callNn .. | .rstP .. =>
    execUnprefixed i s
  | .rlcR r => execRlcR r s
  | .rlcAtHl => execRlcAtHl s
  | .rrcR r => execRrcR r s
  | .rrcAtHl => execRrcAtHl s
  | .rlR r => execRlR r s
  | .rlAtHl => execRlAtHl s
  | .rrR r => execRrR r s
  | .rrAtHl => execRrAtHl s
  | .slaR r => execSlaR r s
  | .slaAtHl => execSlaAtHl s
  | .sraR r => execSraR r s
  | .sraAtHl => execSraAtHl s
  | .sllR r => execSllR r s
  | .sllAtHl => execSllAtHl s
  | .srlR r => execSrlR r s
  | .srlAtHl => execSrlAtHl s
  | .bitBR bit r => execBitBR bit r s
  | .bitBAtHl bit => execBitBAtHl bit s
  | .resBR bit r => execResBR bit r s
  | .resBAtHl bit => execResBAtHl bit s
  | .setBR bit r => execSetBR bit r s
  | .setBAtHl bit => execSetBAtHl bit s
  | .inRAtC r => execInRAtC r s
  | .inFAtC => execInFAtC s
  | .outAtCR r => execOutAtCR r s
  | .outAtC0 => execOutAtC0 s
  | .sbcHlRp rp => execSbcHlRp rp s
  | .adcHlRp rp => execAdcHlRp rp s
  | .ldAtNnRp nn rp => execLdAtNnRp nn rp s
  | .ldAtNnHlEd nn => execLdAtNnHlEd nn s
  | .ldRpAtNn rp nn => execLdRpAtNn rp nn s
  | .ldHlAtNnEd nn => execLdHlAtNnEd nn s
  | .neg => execNeg s
  | .negMirror y => execNegMirror y s
  | .retn => execRetn s
  | .retnMirror y => execRetnMirror y s
  | .reti => execReti s
  | .im0 => execIm0 s
  | .im0Mirror => execIm0Mirror s
  | .im1 => execIm1 s
  | .im1Mirror => execIm1Mirror s
  | .im2 => execIm2 s
  | .im2Mirror => execIm2Mirror s
  | .im01 y => execIm01 y s
  | .ldIA => execLdIA s
  | .ldRA => execLdRA s
  | .ldAI => execLdAI s
  | .ldAR => execLdAR s
  | .rrd => execRrd s
  | .rld => execRld s
  | .nopEd7 y => execNopEd7 y s
  | .ldi => execLdi s
  | .cpi => execCpi s
  | .ini => execIni s
  | .outi => execOuti s
  | .ldd => execLdd s
  | .cpd => execCpd s
  | .ind => execInd s
  | .outd => execOutd s
  | .ldir => execLdir s
  | .cpir => execCpir s
  | .inir => execInir s
  | .otir => execOtir s
  | .lddr => execLddr s
  | .cpdr => execCpdr s
  | .indr => execIndr s
  | .otdr => execOtdr s
  | .nopEd op => execNopEd op s
  | .addIxRp rp => execAddIxRp rp s
  | .ldIxNn nn => execLdIxNn nn s
  | .ldAtNnIx nn => execLdAtNnIx nn s
  | .ldIxAtNn nn => execLdIxAtNn nn s
  | .incIx => execIncIx s
  | .decIx => execDecIx s
  | .incIxHalf half => execIncIxHalf half s
  | .decIxHalf half => execDecIxHalf half s
  | .ldIxHalfN half n => execLdIxHalfN half n s
  | .incAtIxd d => execIncAtIxd d s
  | .decAtIxd d => execDecAtIxd d s
  | .ldAtIxdN d n => execLdAtIxdN d n s
  | .ldRAtIxd r d => execLdRAtIxd r d s
  | .ldAtIxdS d src => execLdAtIxdS d src s
  | .ldRSIxHalf r src => execLdRSIxHalf r src s
  | .addAIxHalf half => execAddAIxHalf half s
  | .addAAtIxd d => execAddAAtIxd d s
  | .adcAIxHalf half => execAdcAIxHalf half s
  | .adcAAtIxd d => execAdcAAtIxd d s
  | .subIxHalf half => execSubIxHalf half s
  | .subAtIxd d => execSubAtIxd d s
  | .sbcAIxHalf half => execSbcAIxHalf half s
  | .sbcAAtIxd d => execSbcAAtIxd d s
  | .andIxHalf half => execAndIxHalf half s
  | .andAtIxd d => execAndAtIxd d s
  | .xorIxHalf half => execXorIxHalf half s
  | .xorAtIxd d => execXorAtIxd d s
  | .orIxHalf half => execOrIxHalf half s
  | .orAtIxd d => execOrAtIxd d s
  | .cpIxHalf half => execCpIxHalf half s
  | .cpAtIxd d => execCpAtIxd d s
  | .popIx => execPopIx s
  | .exAtSpIx => execExAtSpIx s
  | .pushIx => execPushIx s
  | .jpIx => execJpIx s
  | .ldSpIx => execLdSpIx s
  | .ignoredDd next => execIgnoredDd next s
  | .ddUnprefixed inner => execDdUnprefixed inner s
  | .addIyRp rp => execAddIyRp rp s
  | .ldIyNn nn => execLdIyNn nn s
  | .ldAtNnIy nn => execLdAtNnIy nn s
  | .ldIyAtNn nn => execLdIyAtNn nn s
  | .incIy => execIncIy s
  | .decIy => execDecIy s
  | .incIyHalf half => execIncIyHalf half s
  | .decIyHalf half => execDecIyHalf half s
  | .ldIyHalfN half n => execLdIyHalfN half n s
  | .incAtIyd d => execIncAtIyd d s
  | .decAtIyd d => execDecAtIyd d s
  | .ldAtIydN d n => execLdAtIydN d n s
  | .ldRAtIyd r d => execLdRAtIyd r d s
  | .ldAtIydS d src => execLdAtIydS d src s
  | .ldRSIyHalf r src => execLdRSIyHalf r src s
  | .addAIyHalf half => execAddAIyHalf half s
  | .addAAtIyd d => execAddAAtIyd d s
  | .adcAIyHalf half => execAdcAIyHalf half s
  | .adcAAtIyd d => execAdcAAtIyd d s
  | .subIyHalf half => execSubIyHalf half s
  | .subAtIyd d => execSubAtIyd d s
  | .sbcAIyHalf half => execSbcAIyHalf half s
  | .sbcAAtIyd d => execSbcAAtIyd d s
  | .andIyHalf half => execAndIyHalf half s
  | .andAtIyd d => execAndAtIyd d s
  | .xorIyHalf half => execXorIyHalf half s
  | .xorAtIyd d => execXorAtIyd d s
  | .orIyHalf half => execOrIyHalf half s
  | .orAtIyd d => execOrAtIyd d s
  | .cpIyHalf half => execCpIyHalf half s
  | .cpAtIyd d => execCpAtIyd d s
  | .popIy => execPopIy s
  | .exAtSpIy => execExAtSpIy s
  | .pushIy => execPushIy s
  | .jpIy => execJpIy s
  | .ldSpIy => execLdSpIy s
  | .ignoredFd next => execIgnoredFd next s
  | .fdUnprefixed inner => execFdUnprefixed inner s
  | .rlcAtIxd d => execRlcAtIxd d s
  | .ldRRlcAtIxd d r => execLdRRlcAtIxd d r s
  | .rrcAtIxd d => execRrcAtIxd d s
  | .ldRRrcAtIxd d r => execLdRRrcAtIxd d r s
  | .rlAtIxd d => execRlAtIxd d s
  | .ldRRlAtIxd d r => execLdRRlAtIxd d r s
  | .rrAtIxd d => execRrAtIxd d s
  | .ldRRrAtIxd d r => execLdRRrAtIxd d r s
  | .slaAtIxd d => execSlaAtIxd d s
  | .ldRSlaAtIxd d r => execLdRSlaAtIxd d r s
  | .sraAtIxd d => execSraAtIxd d s
  | .ldRSraAtIxd d r => execLdRSraAtIxd d r s
  | .sllAtIxd d => execSllAtIxd d s
  | .ldRSllAtIxd d r => execLdRSllAtIxd d r s
  | .srlAtIxd d => execSrlAtIxd d s
  | .ldRSrlAtIxd d r => execLdRSrlAtIxd d r s
  | .bitBAtIxd bit d => execBitBAtIxd bit d s
  | .bitBAtIxdMirror bit d z => execBitBAtIxdMirror bit d z s
  | .resBAtIxd bit d => execResBAtIxd bit d s
  | .ldRResBAtIxd bit d r => execLdRResBAtIxd bit d r s
  | .setBAtIxd bit d => execSetBAtIxd bit d s
  | .ldRSetBAtIxd bit d r => execLdRSetBAtIxd bit d r s
  | .rlcAtIyd d => execRlcAtIyd d s
  | .ldRRlcAtIyd d r => execLdRRlcAtIyd d r s
  | .rrcAtIyd d => execRrcAtIyd d s
  | .ldRRrcAtIyd d r => execLdRRrcAtIyd d r s
  | .rlAtIyd d => execRlAtIyd d s
  | .ldRRlAtIyd d r => execLdRRlAtIyd d r s
  | .rrAtIyd d => execRrAtIyd d s
  | .ldRRrAtIyd d r => execLdRRrAtIyd d r s
  | .slaAtIyd d => execSlaAtIyd d s
  | .ldRSlaAtIyd d r => execLdRSlaAtIyd d r s
  | .sraAtIyd d => execSraAtIyd d s
  | .ldRSraAtIyd d r => execLdRSraAtIyd d r s
  | .sllAtIyd d => execSllAtIyd d s
  | .ldRSllAtIyd d r => execLdRSllAtIyd d r s
  | .srlAtIyd d => execSrlAtIyd d s
  | .ldRSrlAtIyd d r => execLdRSrlAtIyd d r s
  | .bitBAtIyd bit d => execBitBAtIyd bit d s
  | .bitBAtIydMirror bit d z => execBitBAtIydMirror bit d z s
  | .resBAtIyd bit d => execResBAtIyd bit d s
  | .ldRResBAtIyd bit d r => execLdRResBAtIyd bit d r s
  | .setBAtIyd bit d => execSetBAtIyd bit d s
  | .ldRSetBAtIyd bit d r => execLdRSetBAtIyd bit d r s
  | .prefixCb | .prefixEd | .prefixDd | .prefixFd | .prefixDdCb | .prefixFdCb => .fault (.unknownOpcode (encode i) s)

/-- The rest of R302 after a prefix byte: fetch what is left of the instruction, then execute it (log 11). -/
def continueFetch (rest : Except Fault (Instr × State)) : Result :=
  match rest with
  | .ok (i, s) => execRow i s
  | .error e => .fault e

/-- `prefix CB`: the byte selects a table (R302, R312); its meaning is what R302 does after it. -/
def execPrefixCb (s : State) : Result :=
  continueFetch (fetchCb s)

/-- `prefix ED`: the byte selects a table (R302, R312); its meaning is what R302 does after it. -/
def execPrefixEd (s : State) : Result :=
  continueFetch (fetchEd s)

/-- `prefix DD`: the byte selects a table (R302, R312); its meaning is what R302 does after it. -/
def execPrefixDd (s : State) : Result :=
  continueFetch (fetchXy .ix s)

/-- `prefix FD`: the byte selects a table (R302, R312); its meaning is what R302 does after it. -/
def execPrefixFd (s : State) : Result :=
  continueFetch (fetchXy .iy s)

/-- `prefix DD CB`: the byte selects a table (R302, R312); its meaning is what R302 does after it. -/
def execPrefixDdCb (s : State) : Result :=
  continueFetch (fetchXyCb .ix s)

/-- `prefix FD CB`: the byte selects a table (R302, R312); its meaning is what R302 does after it. -/
def execPrefixFdCb (s : State) : Result :=
  continueFetch (fetchXyCb .iy s)

/-- `int_block` and `ld_air` after a step that ran the instruction (R300): EI blocks INT, also under a DD or FD (R323), an ignored
prefix blocks both, LD A,I and LD A,R are remembered. -/
def endOf (i : Instr) : IntBlock × Bool :=
  match i with
  | .ei => (.intOnly, false)
  | .ddUnprefixed inner => (if inner = .ei then .intOnly else .none, false)
  | .fdUnprefixed inner => (if inner = .ei then .intOnly else .none, false)
  | .ignoredDd _ => (.all, false)
  | .ignoredFd _ => (.all, false)
  | .ldAI => (.none, true)
  | .ldAR => (.none, true)
  | .nop | .ldRpNn .. | .addHlRp .. | .ldAtBcA | .ldAtDeA | .ldAtNnHl .. | .ldAtNnA .. | .ldAAtBc | .ldAAtDe
  | .ldHlAtNn .. | .ldAAtNn .. | .incRp .. | .decRp .. | .incR .. | .incAtHl | .decR .. | .decAtHl | .ldRN ..
  | .ldAtHlN .. | .rlca | .rrca | .rla | .rra | .daa | .cpl | .scf | .ccf | .exAfAf | .ret | .exx | .jpHl | .ldSpHl
  | .exDeHl | .di | .halt | .djnzE .. | .jrE .. | .jrCcE .. | .ldRS .. | .ldRAtHl .. | .ldAtHlS .. | .addAS ..
  | .addAAtHl | .addAN .. | .adcAS .. | .adcAAtHl | .adcAN .. | .subS .. | .subAtHl | .subN .. | .sbcAS .. | .sbcAAtHl
  | .sbcAN .. | .andS .. | .andAtHl | .andN .. | .xorS .. | .xorAtHl | .xorN .. | .orS .. | .orAtHl | .orN ..
  | .cpS .. | .cpAtHl | .cpN .. | .retCc .. | .popRp2 .. | .jpCcNn .. | .jpNn .. | .outAtNA .. | .inAAtN ..
  | .exAtSpHl | .callCcNn .. | .pushRp2 .. | .callNn .. | .rstP .. | .prefixCb | .prefixEd | .prefixDd | .prefixFd
  | .rlcR .. | .rlcAtHl | .rrcR .. | .rrcAtHl | .rlR .. | .rlAtHl | .rrR .. | .rrAtHl | .slaR .. | .slaAtHl | .sraR ..
  | .sraAtHl | .sllR .. | .sllAtHl | .srlR .. | .srlAtHl | .bitBR .. | .bitBAtHl .. | .resBR .. | .resBAtHl ..
  | .setBR .. | .setBAtHl .. | .inRAtC .. | .inFAtC | .outAtCR .. | .outAtC0 | .sbcHlRp .. | .adcHlRp ..
  | .ldAtNnRp .. | .ldAtNnHlEd .. | .ldRpAtNn .. | .ldHlAtNnEd .. | .neg | .negMirror .. | .retn | .retnMirror ..
  | .reti | .im0 | .im0Mirror | .im1 | .im1Mirror | .im2 | .im2Mirror | .im01 .. | .ldIA | .ldRA | .rrd | .rld
  | .nopEd7 .. | .ldi | .cpi | .ini | .outi | .ldd | .cpd | .ind | .outd | .ldir | .cpir | .inir | .otir | .lddr
  | .cpdr | .indr | .otdr | .nopEd .. | .addIxRp .. | .ldIxNn .. | .ldAtNnIx .. | .ldIxAtNn .. | .incIx | .decIx
  | .incIxHalf .. | .decIxHalf .. | .ldIxHalfN .. | .incAtIxd .. | .decAtIxd .. | .ldAtIxdN .. | .ldRAtIxd ..
  | .ldAtIxdS .. | .ldRSIxHalf .. | .addAIxHalf .. | .addAAtIxd .. | .adcAIxHalf .. | .adcAAtIxd .. | .subIxHalf ..
  | .subAtIxd .. | .sbcAIxHalf .. | .sbcAAtIxd .. | .andIxHalf .. | .andAtIxd .. | .xorIxHalf .. | .xorAtIxd ..
  | .orIxHalf .. | .orAtIxd .. | .cpIxHalf .. | .cpAtIxd .. | .popIx | .exAtSpIx | .pushIx | .jpIx | .ldSpIx
  | .prefixDdCb | .addIyRp .. | .ldIyNn .. | .ldAtNnIy .. | .ldIyAtNn .. | .incIy | .decIy | .incIyHalf ..
  | .decIyHalf .. | .ldIyHalfN .. | .incAtIyd .. | .decAtIyd .. | .ldAtIydN .. | .ldRAtIyd .. | .ldAtIydS ..
  | .ldRSIyHalf .. | .addAIyHalf .. | .addAAtIyd .. | .adcAIyHalf .. | .adcAAtIyd .. | .subIyHalf .. | .subAtIyd ..
  | .sbcAIyHalf .. | .sbcAAtIyd .. | .andIyHalf .. | .andAtIyd .. | .xorIyHalf .. | .xorAtIyd .. | .orIyHalf ..
  | .orAtIyd .. | .cpIyHalf .. | .cpAtIyd .. | .popIy | .exAtSpIy | .pushIy | .jpIy | .ldSpIy | .prefixFdCb
  | .rlcAtIxd .. | .ldRRlcAtIxd .. | .rrcAtIxd .. | .ldRRrcAtIxd .. | .rlAtIxd .. | .ldRRlAtIxd .. | .rrAtIxd ..
  | .ldRRrAtIxd .. | .slaAtIxd .. | .ldRSlaAtIxd .. | .sraAtIxd .. | .ldRSraAtIxd .. | .sllAtIxd .. | .ldRSllAtIxd ..
  | .srlAtIxd .. | .ldRSrlAtIxd .. | .bitBAtIxd .. | .bitBAtIxdMirror .. | .resBAtIxd .. | .ldRResBAtIxd ..
  | .setBAtIxd .. | .ldRSetBAtIxd .. | .rlcAtIyd .. | .ldRRlcAtIyd .. | .rrcAtIyd .. | .ldRRrcAtIyd .. | .rlAtIyd ..
  | .ldRRlAtIyd .. | .rrAtIyd .. | .ldRRrAtIyd .. | .slaAtIyd .. | .ldRSlaAtIyd .. | .sraAtIyd .. | .ldRSraAtIyd ..
  | .sllAtIyd .. | .ldRSllAtIyd .. | .srlAtIyd .. | .ldRSrlAtIyd .. | .bitBAtIyd .. | .bitBAtIydMirror ..
  | .resBAtIyd .. | .ldRResBAtIyd .. | .setBAtIyd .. | .ldRSetBAtIyd .. =>
    (.none, false)

end Sys2Proof.Machine
end

