-- ==== Sys2Proof/Machine/Dispatch.lean ====
section
/-! DEFINITION. One arm per row of spec/opcode_table.json. `exec` is entered when every byte of the instruction has been
fetched (30_encoding.md R308): PC is the address after it, R and the latch are as its fetches left them (log 12). -/

namespace Sys2Proof.Machine

def exec (i : Instr) (s : State) : Host.Outcome State Fault Refusal :=
  match i with
  -- Unprefixed (R315, R316), and the prefix rows.
  | .nop => Sys2Proof.Machine.execNop s
  | .ldRpNn rp nn => Sys2Proof.Machine.execLdRpNn rp nn s
  | .addHlRp rp => Sys2Proof.Machine.execAddHlRp rp s
  | .ldAtBcA => Sys2Proof.Machine.execLdAtBcA s
  | .ldAtDeA => Sys2Proof.Machine.execLdAtDeA s
  | .ldAtNnHl nn => Sys2Proof.Machine.execLdAtNnHl nn s
  | .ldAtNnA nn => Sys2Proof.Machine.execLdAtNnA nn s
  | .ldAAtBc => Sys2Proof.Machine.execLdAAtBc s
  | .ldAAtDe => Sys2Proof.Machine.execLdAAtDe s
  | .ldHlAtNn nn => Sys2Proof.Machine.execLdHlAtNn nn s
  | .ldAAtNn nn => Sys2Proof.Machine.execLdAAtNn nn s
  | .incRp rp => Sys2Proof.Machine.execIncRp rp s
  | .decRp rp => Sys2Proof.Machine.execDecRp rp s
  | .incR r => Sys2Proof.Machine.execIncR r s
  | .incAtHl => Sys2Proof.Machine.execIncAtHl s
  | .decR r => Sys2Proof.Machine.execDecR r s
  | .decAtHl => Sys2Proof.Machine.execDecAtHl s
  | .ldRN r n => Sys2Proof.Machine.execLdRN r n s
  | .ldAtHlN n => Sys2Proof.Machine.execLdAtHlN n s
  | .rlca => Sys2Proof.Machine.execRlca s
  | .rrca => Sys2Proof.Machine.execRrca s
  | .rla => Sys2Proof.Machine.execRla s
  | .rra => Sys2Proof.Machine.execRra s
  | .daa => Sys2Proof.Machine.execDaa s
  | .cpl => Sys2Proof.Machine.execCpl s
  | .scf => Sys2Proof.Machine.execScf s
  | .ccf => Sys2Proof.Machine.execCcf s
  | .exAfAf => Sys2Proof.Machine.execExAfAf s
  | .ret => Sys2Proof.Machine.execRet s
  | .exx => Sys2Proof.Machine.execExx s
  | .jpHl => Sys2Proof.Machine.execJpHl s
  | .ldSpHl => Sys2Proof.Machine.execLdSpHl s
  | .exDeHl => Sys2Proof.Machine.execExDeHl s
  | .di => Sys2Proof.Machine.execDi s
  | .ei => Sys2Proof.Machine.execEi s
  | .halt => Sys2Proof.Machine.execHalt s
  | .djnzE d => Sys2Proof.Machine.execDjnzE d s
  | .jrE d => Sys2Proof.Machine.execJrE d s
  | .jrCcE cc d => Sys2Proof.Machine.execJrCcE cc d s
  | .ldRS r src => Sys2Proof.Machine.execLdRS r src s
  | .ldRAtHl r => Sys2Proof.Machine.execLdRAtHl r s
  | .ldAtHlS src => Sys2Proof.Machine.execLdAtHlS src s
  | .addAS src => Sys2Proof.Machine.execAddAS src s
  | .addAAtHl => Sys2Proof.Machine.execAddAAtHl s
  | .addAN n => Sys2Proof.Machine.execAddAN n s
  | .adcAS src => Sys2Proof.Machine.execAdcAS src s
  | .adcAAtHl => Sys2Proof.Machine.execAdcAAtHl s
  | .adcAN n => Sys2Proof.Machine.execAdcAN n s
  | .subS src => Sys2Proof.Machine.execSubS src s
  | .subAtHl => Sys2Proof.Machine.execSubAtHl s
  | .subN n => Sys2Proof.Machine.execSubN n s
  | .sbcAS src => Sys2Proof.Machine.execSbcAS src s
  | .sbcAAtHl => Sys2Proof.Machine.execSbcAAtHl s
  | .sbcAN n => Sys2Proof.Machine.execSbcAN n s
  | .andS src => Sys2Proof.Machine.execAndS src s
  | .andAtHl => Sys2Proof.Machine.execAndAtHl s
  | .andN n => Sys2Proof.Machine.execAndN n s
  | .xorS src => Sys2Proof.Machine.execXorS src s
  | .xorAtHl => Sys2Proof.Machine.execXorAtHl s
  | .xorN n => Sys2Proof.Machine.execXorN n s
  | .orS src => Sys2Proof.Machine.execOrS src s
  | .orAtHl => Sys2Proof.Machine.execOrAtHl s
  | .orN n => Sys2Proof.Machine.execOrN n s
  | .cpS src => Sys2Proof.Machine.execCpS src s
  | .cpAtHl => Sys2Proof.Machine.execCpAtHl s
  | .cpN n => Sys2Proof.Machine.execCpN n s
  | .retCc cc => Sys2Proof.Machine.execRetCc cc s
  | .popRp2 rp => Sys2Proof.Machine.execPopRp2 rp s
  | .jpCcNn cc nn => Sys2Proof.Machine.execJpCcNn cc nn s
  | .jpNn nn => Sys2Proof.Machine.execJpNn nn s
  | .outAtNA n => Sys2Proof.Machine.execOutAtNA n s
  | .inAAtN n => Sys2Proof.Machine.execInAAtN n s
  | .exAtSpHl => Sys2Proof.Machine.execExAtSpHl s
  | .callCcNn cc nn => Sys2Proof.Machine.execCallCcNn cc nn s
  | .pushRp2 rp => Sys2Proof.Machine.execPushRp2 rp s
  | .callNn nn => Sys2Proof.Machine.execCallNn nn s
  | .rstP t => Sys2Proof.Machine.execRstP t s
  | .prefixCb => Sys2Proof.Machine.execPrefixCb s
  | .prefixEd => Sys2Proof.Machine.execPrefixEd s
  | .prefixDd => Sys2Proof.Machine.execPrefixDd s
  | .prefixFd => Sys2Proof.Machine.execPrefixFd s
  -- CB (R317).
  | .rlcR r => Sys2Proof.Machine.execRlcR r s
  | .rlcAtHl => Sys2Proof.Machine.execRlcAtHl s
  | .rrcR r => Sys2Proof.Machine.execRrcR r s
  | .rrcAtHl => Sys2Proof.Machine.execRrcAtHl s
  | .rlR r => Sys2Proof.Machine.execRlR r s
  | .rlAtHl => Sys2Proof.Machine.execRlAtHl s
  | .rrR r => Sys2Proof.Machine.execRrR r s
  | .rrAtHl => Sys2Proof.Machine.execRrAtHl s
  | .slaR r => Sys2Proof.Machine.execSlaR r s
  | .slaAtHl => Sys2Proof.Machine.execSlaAtHl s
  | .sraR r => Sys2Proof.Machine.execSraR r s
  | .sraAtHl => Sys2Proof.Machine.execSraAtHl s
  | .sllR r => Sys2Proof.Machine.execSllR r s
  | .sllAtHl => Sys2Proof.Machine.execSllAtHl s
  | .srlR r => Sys2Proof.Machine.execSrlR r s
  | .srlAtHl => Sys2Proof.Machine.execSrlAtHl s
  | .bitBR bit r => Sys2Proof.Machine.execBitBR bit r s
  | .bitBAtHl bit => Sys2Proof.Machine.execBitBAtHl bit s
  | .resBR bit r => Sys2Proof.Machine.execResBR bit r s
  | .resBAtHl bit => Sys2Proof.Machine.execResBAtHl bit s
  | .setBR bit r => Sys2Proof.Machine.execSetBR bit r s
  | .setBAtHl bit => Sys2Proof.Machine.execSetBAtHl bit s
  -- ED (R318, R325).
  | .inRAtC r => Sys2Proof.Machine.execInRAtC r s
  | .inFAtC => Sys2Proof.Machine.execInFAtC s
  | .outAtCR r => Sys2Proof.Machine.execOutAtCR r s
  | .outAtC0 => Sys2Proof.Machine.execOutAtC0 s
  | .sbcHlRp rp => Sys2Proof.Machine.execSbcHlRp rp s
  | .adcHlRp rp => Sys2Proof.Machine.execAdcHlRp rp s
  | .ldAtNnRp nn rp => Sys2Proof.Machine.execLdAtNnRp nn rp s
  | .ldAtNnHlEd nn => Sys2Proof.Machine.execLdAtNnHlEd nn s
  | .ldRpAtNn rp nn => Sys2Proof.Machine.execLdRpAtNn rp nn s
  | .ldHlAtNnEd nn => Sys2Proof.Machine.execLdHlAtNnEd nn s
  | .neg => Sys2Proof.Machine.execNeg s
  | .negMirror y => Sys2Proof.Machine.execNegMirror y s
  | .retn => Sys2Proof.Machine.execRetn s
  | .retnMirror y => Sys2Proof.Machine.execRetnMirror y s
  | .reti => Sys2Proof.Machine.execReti s
  | .im0 => Sys2Proof.Machine.execIm0 s
  | .im0Mirror => Sys2Proof.Machine.execIm0Mirror s
  | .im1 => Sys2Proof.Machine.execIm1 s
  | .im1Mirror => Sys2Proof.Machine.execIm1Mirror s
  | .im2 => Sys2Proof.Machine.execIm2 s
  | .im2Mirror => Sys2Proof.Machine.execIm2Mirror s
  | .im01 y => Sys2Proof.Machine.execIm01 y s
  | .ldIA => Sys2Proof.Machine.execLdIA s
  | .ldRA => Sys2Proof.Machine.execLdRA s
  | .ldAI => Sys2Proof.Machine.execLdAI s
  | .ldAR => Sys2Proof.Machine.execLdAR s
  | .rrd => Sys2Proof.Machine.execRrd s
  | .rld => Sys2Proof.Machine.execRld s
  | .nopEd7 y => Sys2Proof.Machine.execNopEd7 y s
  | .ldi => Sys2Proof.Machine.execLdi s
  | .cpi => Sys2Proof.Machine.execCpi s
  | .ini => Sys2Proof.Machine.execIni s
  | .outi => Sys2Proof.Machine.execOuti s
  | .ldd => Sys2Proof.Machine.execLdd s
  | .cpd => Sys2Proof.Machine.execCpd s
  | .ind => Sys2Proof.Machine.execInd s
  | .outd => Sys2Proof.Machine.execOutd s
  | .ldir => Sys2Proof.Machine.execLdir s
  | .cpir => Sys2Proof.Machine.execCpir s
  | .inir => Sys2Proof.Machine.execInir s
  | .otir => Sys2Proof.Machine.execOtir s
  | .lddr => Sys2Proof.Machine.execLddr s
  | .cpdr => Sys2Proof.Machine.execCpdr s
  | .indr => Sys2Proof.Machine.execIndr s
  | .otdr => Sys2Proof.Machine.execOtdr s
  | .nopEd op => Sys2Proof.Machine.execNopEd op s
  -- DD (R320 to R324).
  | .addIxRp rp => Sys2Proof.Machine.execAddIxRp rp s
  | .ldIxNn nn => Sys2Proof.Machine.execLdIxNn nn s
  | .ldAtNnIx nn => Sys2Proof.Machine.execLdAtNnIx nn s
  | .ldIxAtNn nn => Sys2Proof.Machine.execLdIxAtNn nn s
  | .incIx => Sys2Proof.Machine.execIncIx s
  | .decIx => Sys2Proof.Machine.execDecIx s
  | .incIxHalf half => Sys2Proof.Machine.execIncIxHalf half s
  | .decIxHalf half => Sys2Proof.Machine.execDecIxHalf half s
  | .ldIxHalfN half n => Sys2Proof.Machine.execLdIxHalfN half n s
  | .incAtIxd d => Sys2Proof.Machine.execIncAtIxd d s
  | .decAtIxd d => Sys2Proof.Machine.execDecAtIxd d s
  | .ldAtIxdN d n => Sys2Proof.Machine.execLdAtIxdN d n s
  | .ldRAtIxd r d => Sys2Proof.Machine.execLdRAtIxd r d s
  | .ldAtIxdS d src => Sys2Proof.Machine.execLdAtIxdS d src s
  | .ldRSIxHalf r src => Sys2Proof.Machine.execLdRSIxHalf r src s
  | .addAIxHalf half => Sys2Proof.Machine.execAddAIxHalf half s
  | .addAAtIxd d => Sys2Proof.Machine.execAddAAtIxd d s
  | .adcAIxHalf half => Sys2Proof.Machine.execAdcAIxHalf half s
  | .adcAAtIxd d => Sys2Proof.Machine.execAdcAAtIxd d s
  | .subIxHalf half => Sys2Proof.Machine.execSubIxHalf half s
  | .subAtIxd d => Sys2Proof.Machine.execSubAtIxd d s
  | .sbcAIxHalf half => Sys2Proof.Machine.execSbcAIxHalf half s
  | .sbcAAtIxd d => Sys2Proof.Machine.execSbcAAtIxd d s
  | .andIxHalf half => Sys2Proof.Machine.execAndIxHalf half s
  | .andAtIxd d => Sys2Proof.Machine.execAndAtIxd d s
  | .xorIxHalf half => Sys2Proof.Machine.execXorIxHalf half s
  | .xorAtIxd d => Sys2Proof.Machine.execXorAtIxd d s
  | .orIxHalf half => Sys2Proof.Machine.execOrIxHalf half s
  | .orAtIxd d => Sys2Proof.Machine.execOrAtIxd d s
  | .cpIxHalf half => Sys2Proof.Machine.execCpIxHalf half s
  | .cpAtIxd d => Sys2Proof.Machine.execCpAtIxd d s
  | .popIx => Sys2Proof.Machine.execPopIx s
  | .exAtSpIx => Sys2Proof.Machine.execExAtSpIx s
  | .pushIx => Sys2Proof.Machine.execPushIx s
  | .jpIx => Sys2Proof.Machine.execJpIx s
  | .ldSpIx => Sys2Proof.Machine.execLdSpIx s
  | .prefixDdCb => Sys2Proof.Machine.execPrefixDdCb s
  | .ignoredDd next => Sys2Proof.Machine.execIgnoredDd next s
  | .ddUnprefixed inner => Sys2Proof.Machine.execDdUnprefixed inner s
  -- FD (R320 to R324).
  | .addIyRp rp => Sys2Proof.Machine.execAddIyRp rp s
  | .ldIyNn nn => Sys2Proof.Machine.execLdIyNn nn s
  | .ldAtNnIy nn => Sys2Proof.Machine.execLdAtNnIy nn s
  | .ldIyAtNn nn => Sys2Proof.Machine.execLdIyAtNn nn s
  | .incIy => Sys2Proof.Machine.execIncIy s
  | .decIy => Sys2Proof.Machine.execDecIy s
  | .incIyHalf half => Sys2Proof.Machine.execIncIyHalf half s
  | .decIyHalf half => Sys2Proof.Machine.execDecIyHalf half s
  | .ldIyHalfN half n => Sys2Proof.Machine.execLdIyHalfN half n s
  | .incAtIyd d => Sys2Proof.Machine.execIncAtIyd d s
  | .decAtIyd d => Sys2Proof.Machine.execDecAtIyd d s
  | .ldAtIydN d n => Sys2Proof.Machine.execLdAtIydN d n s
  | .ldRAtIyd r d => Sys2Proof.Machine.execLdRAtIyd r d s
  | .ldAtIydS d src => Sys2Proof.Machine.execLdAtIydS d src s
  | .ldRSIyHalf r src => Sys2Proof.Machine.execLdRSIyHalf r src s
  | .addAIyHalf half => Sys2Proof.Machine.execAddAIyHalf half s
  | .addAAtIyd d => Sys2Proof.Machine.execAddAAtIyd d s
  | .adcAIyHalf half => Sys2Proof.Machine.execAdcAIyHalf half s
  | .adcAAtIyd d => Sys2Proof.Machine.execAdcAAtIyd d s
  | .subIyHalf half => Sys2Proof.Machine.execSubIyHalf half s
  | .subAtIyd d => Sys2Proof.Machine.execSubAtIyd d s
  | .sbcAIyHalf half => Sys2Proof.Machine.execSbcAIyHalf half s
  | .sbcAAtIyd d => Sys2Proof.Machine.execSbcAAtIyd d s
  | .andIyHalf half => Sys2Proof.Machine.execAndIyHalf half s
  | .andAtIyd d => Sys2Proof.Machine.execAndAtIyd d s
  | .xorIyHalf half => Sys2Proof.Machine.execXorIyHalf half s
  | .xorAtIyd d => Sys2Proof.Machine.execXorAtIyd d s
  | .orIyHalf half => Sys2Proof.Machine.execOrIyHalf half s
  | .orAtIyd d => Sys2Proof.Machine.execOrAtIyd d s
  | .cpIyHalf half => Sys2Proof.Machine.execCpIyHalf half s
  | .cpAtIyd d => Sys2Proof.Machine.execCpAtIyd d s
  | .popIy => Sys2Proof.Machine.execPopIy s
  | .exAtSpIy => Sys2Proof.Machine.execExAtSpIy s
  | .pushIy => Sys2Proof.Machine.execPushIy s
  | .jpIy => Sys2Proof.Machine.execJpIy s
  | .ldSpIy => Sys2Proof.Machine.execLdSpIy s
  | .prefixFdCb => Sys2Proof.Machine.execPrefixFdCb s
  | .ignoredFd next => Sys2Proof.Machine.execIgnoredFd next s
  | .fdUnprefixed inner => Sys2Proof.Machine.execFdUnprefixed inner s
  -- DD CB (R319).
  | .rlcAtIxd d => Sys2Proof.Machine.execRlcAtIxd d s
  | .ldRRlcAtIxd d r => Sys2Proof.Machine.execLdRRlcAtIxd d r s
  | .rrcAtIxd d => Sys2Proof.Machine.execRrcAtIxd d s
  | .ldRRrcAtIxd d r => Sys2Proof.Machine.execLdRRrcAtIxd d r s
  | .rlAtIxd d => Sys2Proof.Machine.execRlAtIxd d s
  | .ldRRlAtIxd d r => Sys2Proof.Machine.execLdRRlAtIxd d r s
  | .rrAtIxd d => Sys2Proof.Machine.execRrAtIxd d s
  | .ldRRrAtIxd d r => Sys2Proof.Machine.execLdRRrAtIxd d r s
  | .slaAtIxd d => Sys2Proof.Machine.execSlaAtIxd d s
  | .ldRSlaAtIxd d r => Sys2Proof.Machine.execLdRSlaAtIxd d r s
  | .sraAtIxd d => Sys2Proof.Machine.execSraAtIxd d s
  | .ldRSraAtIxd d r => Sys2Proof.Machine.execLdRSraAtIxd d r s
  | .sllAtIxd d => Sys2Proof.Machine.execSllAtIxd d s
  | .ldRSllAtIxd d r => Sys2Proof.Machine.execLdRSllAtIxd d r s
  | .srlAtIxd d => Sys2Proof.Machine.execSrlAtIxd d s
  | .ldRSrlAtIxd d r => Sys2Proof.Machine.execLdRSrlAtIxd d r s
  | .bitBAtIxd bit d => Sys2Proof.Machine.execBitBAtIxd bit d s
  | .bitBAtIxdMirror bit d z => Sys2Proof.Machine.execBitBAtIxdMirror bit d z s
  | .resBAtIxd bit d => Sys2Proof.Machine.execResBAtIxd bit d s
  | .ldRResBAtIxd bit d r => Sys2Proof.Machine.execLdRResBAtIxd bit d r s
  | .setBAtIxd bit d => Sys2Proof.Machine.execSetBAtIxd bit d s
  | .ldRSetBAtIxd bit d r => Sys2Proof.Machine.execLdRSetBAtIxd bit d r s
  -- FD CB (R319).
  | .rlcAtIyd d => Sys2Proof.Machine.execRlcAtIyd d s
  | .ldRRlcAtIyd d r => Sys2Proof.Machine.execLdRRlcAtIyd d r s
  | .rrcAtIyd d => Sys2Proof.Machine.execRrcAtIyd d s
  | .ldRRrcAtIyd d r => Sys2Proof.Machine.execLdRRrcAtIyd d r s
  | .rlAtIyd d => Sys2Proof.Machine.execRlAtIyd d s
  | .ldRRlAtIyd d r => Sys2Proof.Machine.execLdRRlAtIyd d r s
  | .rrAtIyd d => Sys2Proof.Machine.execRrAtIyd d s
  | .ldRRrAtIyd d r => Sys2Proof.Machine.execLdRRrAtIyd d r s
  | .slaAtIyd d => Sys2Proof.Machine.execSlaAtIyd d s
  | .ldRSlaAtIyd d r => Sys2Proof.Machine.execLdRSlaAtIyd d r s
  | .sraAtIyd d => Sys2Proof.Machine.execSraAtIyd d s
  | .ldRSraAtIyd d r => Sys2Proof.Machine.execLdRSraAtIyd d r s
  | .sllAtIyd d => Sys2Proof.Machine.execSllAtIyd d s
  | .ldRSllAtIyd d r => Sys2Proof.Machine.execLdRSllAtIyd d r s
  | .srlAtIyd d => Sys2Proof.Machine.execSrlAtIyd d s
  | .ldRSrlAtIyd d r => Sys2Proof.Machine.execLdRSrlAtIyd d r s
  | .bitBAtIyd bit d => Sys2Proof.Machine.execBitBAtIyd bit d s
  | .bitBAtIydMirror bit d z => Sys2Proof.Machine.execBitBAtIydMirror bit d z s
  | .resBAtIyd bit d => Sys2Proof.Machine.execResBAtIyd bit d s
  | .ldRResBAtIyd bit d r => Sys2Proof.Machine.execLdRResBAtIyd bit d r s
  | .setBAtIyd bit d => Sys2Proof.Machine.execSetBAtIyd bit d s
  | .ldRSetBAtIyd bit d r => Sys2Proof.Machine.execLdRSetBAtIyd bit d r s

end Sys2Proof.Machine
end

