-- ==== Sys2Proof/Machine/Step.lean ====
section
/-! DEFINITION. The top-level step (30_encoding.md R300, R301; 60_exceptions.md R910): one interrupt acceptance, one halted cycle, or
one instruction fetched, executed and recorded. -/

namespace Sys2Proof.Machine

/-- One instruction: fetch it whole, execute it, then set int_block and ld_air (R300, R302). -/
def runInstr (s : State) : Host.Outcome State Fault Refusal :=
  match fetchInstr s with
  | .ok (i, s) => endStep (endOf i).1 (endOf i).2 (exec i s)
  | .error e => .fault e

/-- One step (R300). Its inputs are the head of `inputs`; its outputs are left in `cycles` and `events`. -/
def step (s : State) : Host.Outcome State Fault Refusal :=
  match stepKind s.nextInput s.beginStep with
  | .nmi => endStep .none false (acceptNmi s.beginStep)
  | .interrupt busByte => endStep .none false (acceptInt busByte s.beginStep)
  | .haltedCycle => endStep .none false (.next (haltedCycle s.beginStep))
  | .instruction => runInstr s.beginStep

/-- The instruction whose bits are `w`, with zero bytes after it, where the next step fetches (log 15). -/
def State.withFetchWord (s : State) (nbits w : Nat) : State := s.place (layBytes nbits w)

end Sys2Proof.Machine
end

