-- ==== Sys2Proof/Safety.lean ====
section
/-! DEFINITION. The terms in which claims are stated: the effect and the frame of an instruction, the addresses it reads and
writes, a completing step, and the invariants. -/

namespace Sys2Proof.Machine

/-! ## Frames -/

/-- The fields of State, as a frame names them. -/
inductive Field where
  | a
  | f
  | b
  | c
  | d
  | e
  | h
  | l
  | altA
  | altF
  | altB
  | altC
  | altD
  | altE
  | altH
  | altL
  | ix
  | iy
  | sp
  | pc
  | i
  | r
  | iff1
  | iff2
  | im
  | halted
  | intBlock
  | nmiPending
  | latch
  | ldAir
  | mem
  | bus
  | params
  | inputs
  | ioAnswers
  | draws
  | cycles
  | events
deriving DecidableEq, Repr

/-- Two states hold the same value in a field. -/
def Field.same (x : Field) (s t : State) : Prop :=
  match x with
  | .a => t.a = s.a
  | .f => t.f = s.f
  | .b => t.b = s.b
  | .c => t.c = s.c
  | .d => t.d = s.d
  | .e => t.e = s.e
  | .h => t.h = s.h
  | .l => t.l = s.l
  | .altA => t.altA = s.altA
  | .altF => t.altF = s.altF
  | .altB => t.altB = s.altB
  | .altC => t.altC = s.altC
  | .altD => t.altD = s.altD
  | .altE => t.altE = s.altE
  | .altH => t.altH = s.altH
  | .altL => t.altL = s.altL
  | .ix => t.ix = s.ix
  | .iy => t.iy = s.iy
  | .sp => t.sp = s.sp
  | .pc => t.pc = s.pc
  | .i => t.i = s.i
  | .r => t.r = s.r
  | .iff1 => t.iff1 = s.iff1
  | .iff2 => t.iff2 = s.iff2
  | .im => t.im = s.im
  | .halted => t.halted = s.halted
  | .intBlock => t.intBlock = s.intBlock
  | .nmiPending => t.nmiPending = s.nmiPending
  | .latch => t.latch = s.latch
  | .ldAir => t.ldAir = s.ldAir
  | .mem => t.mem = s.mem
  | .bus => t.bus = s.bus
  | .params => t.params = s.params
  | .inputs => t.inputs = s.inputs
  | .ioAnswers => t.ioAnswers = s.ioAnswers
  | .draws => t.draws = s.draws
  | .cycles => t.cycles = s.cycles
  | .events => t.events = s.events

/-- Every field but the listed ones is as it was. -/
def Frame (changed : List Field) (s t : State) : Prop := ∀ x : Field, x ∉ changed → x.same s t

/-- The field of an 8-bit register. -/
def Field.ofReg (r : Reg8) : Field :=
  match r with
  | .b => .b
  | .c => .c
  | .d => .d
  | .e => .e
  | .h => .h
  | .l => .l
  | .a => .a

/-- The fields of a register pair (10_state.md R102). -/
def Field.ofPair (rp : RegPair) : List Field :=
  match rp with
  | .bc => [.b, .c]
  | .de => [.d, .e]
  | .hl => [.h, .l]
  | .sp => [.sp]

/-- The fields of a pair that is pushed or popped. -/
def Field.ofStackPair (rp : StackPair) : List Field :=
  match rp with
  | .bc => [.b, .c]
  | .de => [.d, .e]
  | .hl => [.h, .l]
  | .af => [.a, .f]

/-- The field of an index register. -/
def Field.ofXy (x : XY) : Field :=
  match x with
  | .ix => .ix
  | .iy => .iy

/-- The field of a register named under a DD or FD prefix (30_encoding.md R322). -/
def Field.ofRegX (x : XY) (r : RegX) : Field :=
  match r with
  | .b => .b
  | .c => .c
  | .d => .d
  | .e => .e
  | .xh => .ofXy x
  | .xl => .ofXy x
  | .a => .a

/-! ## Effects -/

/-- What an address reads as once the listed bytes are stored. -/
def afterStores (s : State) (stores : List (Word × Byte)) (a : Word) : Except AccessError Byte :=
  match stores.lookup a with
  | some v => .ok v
  | none => s.peek a

/-- The result is a next state with this cycle count, in which exactly the listed bytes of memory are stored, `post` holds, and
every field of State but `changed`, the cycle count and (where something is stored) memory is as it was. -/
def Yields (res : Result) (s : State) (changed : List Field) (stores : List (Word × Byte)) (cycles : Nat)
    (post : State → Prop) : Prop :=
  ∃ t, res = .next t ∧ t.cycles = cycles ∧
    Frame (.cycles :: (if stores.isEmpty then changed else .mem :: changed)) s t ∧
    (∀ a, t.peek a = afterStores s stores a) ∧ post t

/-- An instruction completes with this effect. -/
def Effect (i : Instr) (s : State) (changed : List Field) (stores : List (Word × Byte)) (cycles : Nat)
    (post : State → Prop) : Prop :=
  Yields (exec i s) s changed stores cycles post

/-- The address reads as this byte. -/
abbrev Reads (s : State) (a : Word) (v : Byte) : Prop := s.peek a = .ok v

/-- A write to the address fails this way (20_memory.md R208, R210). -/
def WriteFails (s : State) (a : Word) (e : AccessError) : Prop := ∀ v, s.bus.write s.mem a v = .error e

/-- The instruction reads one byte and completes, or faults with nothing changed (60_exceptions.md R907). -/
def LoadsFrom (i : Instr) (s : State) (a : Word) (changed : List Field) (cycles : Nat) (post : Byte → State → Prop) : Prop :=
  (∀ v, Reads s a v → Effect i s changed [] cycles (post v)) ∧
    ∀ e, s.peek a = .error e → exec i s = .fault (e.toFault s)

/-- The instruction reads two bytes, low byte first, and completes, or faults with nothing changed. -/
def LoadsWordFrom (i : Instr) (s : State) (a : Word) (changed : List Field) (cycles : Nat) (post : Word → State → Prop) :
    Prop :=
  (∀ lo hi, Reads s a lo → Reads s (a + 1#16) hi → Effect i s changed [] cycles (post (pair hi lo))) ∧
    (∀ e, s.peek a = .error e → exec i s = .fault (e.toFault s)) ∧
    ∀ lo e, Reads s a lo → s.peek (a + 1#16) = .error e → exec i s = .fault (e.toFault s)

/-- The instruction stores one byte and changes nothing else, or faults with nothing changed. -/
def StoresTo (i : Instr) (s : State) (a : Word) (v : Byte) (cycles : Nat) : Prop :=
  (s.writable a = true → Effect i s [] [(a, v)] cycles fun _ => True) ∧
    ∀ e, WriteFails s a e → exec i s = .fault (e.toFault s)

/-- The instruction stores two bytes, the low byte first, and changes nothing else; a failing first write changes nothing, a failing
second one leaves the first byte stored (60_exceptions.md R907). -/
def StoresWordTo (i : Instr) (s : State) (a : Word) (v : Word) (cycles : Nat) : Prop :=
  (s.writable a = true → s.writable (a + 1#16) = true →
      Effect i s [] [(a, loByte v), (a + 1#16, hiByte v)] cycles fun _ => True) ∧
    (∀ e, WriteFails s a e → exec i s = .fault (e.toFault s)) ∧
    ∀ e, s.writable a = true → WriteFails s (a + 1#16) e →
      ∃ left, exec i s = .fault (e.toFault left) ∧ Frame [.mem] s left ∧
        ∀ x, left.peek x = afterStores s [(a, loByte v)] x

/-- The instruction reads a byte, stores a byte there and completes; a failing read or write changes nothing. -/
def Modifies (i : Instr) (s : State) (a : Word) (changed : List Field) (cycles : Nat)
    (post : Byte → Byte → State → Prop) : Prop :=
  (∀ v, Reads s a v → s.writable a = true → ∃ res, Effect i s changed [(a, res)] cycles (post v res)) ∧
    (∀ e, s.peek a = .error e → exec i s = .fault (e.toFault s)) ∧
    ∀ v e, Reads s a v → WriteFails s a e → exec i s = .fault (e.toFault s)

/-- The instruction pushes a word, high byte first, and completes; SP counts each byte before its write, also where that write fails
(41_load16.md R470). -/
def Pushes (i : Instr) (s : State) (v : Word) (changed : List Field) (cycles : Nat) (post : State → Prop) : Prop :=
  (s.writable (s.sp - 1#16) = true → s.writable (s.sp - 2#16) = true →
      Effect i s (.sp :: changed) [(s.sp - 1#16, hiByte v), (s.sp - 2#16, loByte v)] cycles
        fun t => t.sp = s.sp - 2#16 ∧ post t) ∧
    (∀ e, WriteFails s (s.sp - 1#16) e → exec i s = .fault (e.toFault { s with sp := s.sp - 1#16 })) ∧
    ∀ e, s.writable (s.sp - 1#16) = true → WriteFails s (s.sp - 2#16) e →
      ∃ left, exec i s = .fault (e.toFault left) ∧ Frame [.mem, .sp] s left ∧ left.sp = s.sp - 2#16 ∧
        ∀ x, left.peek x = afterStores s [(s.sp - 1#16, hiByte v)] x

/-- The instruction pops a word, low byte first, and completes; SP counts each byte after its read (41_load16.md R471). -/
def Pops (i : Instr) (s : State) (changed : List Field) (cycles : Nat) (post : Word → State → Prop) : Prop :=
  (∀ lo hi, Reads s s.sp lo → Reads s (s.sp + 1#16) hi →
      Effect i s (.sp :: changed) [] cycles fun t => t.sp = s.sp + 2#16 ∧ post (pair hi lo) t) ∧
    (∀ e, s.peek s.sp = .error e → exec i s = .fault (e.toFault s)) ∧
    ∀ lo e, Reads s s.sp lo → s.peek (s.sp + 1#16) = .error e →
      exec i s = .fault (e.toFault { s with sp := s.sp + 1#16 })

/-! ## The bytes an instruction reads and writes

The tables name the instructions that access memory; that no other does is what the statement EveryInstructionCompletes says. -/

/-- The addresses an unprefixed instruction reads. -/
def readsBase (i : Instr) (s : State) : List Word :=
  match i with
  | .ldRAtHl _ | .addAAtHl | .adcAAtHl | .subAtHl | .sbcAAtHl | .andAtHl | .xorAtHl | .orAtHl | .cpAtHl | .incAtHl
  | .decAtHl => [s.hl]
  | .ldAAtBc => [s.bc]
  | .ldAAtDe => [s.de]
  | .ldAAtNn nn => [nn]
  | .ldHlAtNn nn => [nn, nn + 1#16]
  | .ret | .popRp2 _ | .exAtSpHl => [s.sp, s.sp + 1#16]
  | .retCc cc => if s.cond cc then [s.sp, s.sp + 1#16] else []
  | _ => []

/-- The addresses an instruction reads. -/
def reads (i : Instr) (s : State) : List Word :=
  match i with
  | .rlcAtHl | .rrcAtHl | .rlAtHl | .rrAtHl | .slaAtHl | .sraAtHl | .sllAtHl | .srlAtHl | .bitBAtHl _ | .resBAtHl _
  | .setBAtHl _ | .rrd | .rld | .ldi | .ldd | .ldir | .lddr | .cpi | .cpd | .cpir | .cpdr | .outi | .outd | .otir
  | .otdr => [s.hl]
  | .ldRpAtNn _ nn | .ldHlAtNnEd nn | .ldIxAtNn nn | .ldIyAtNn nn => [nn, nn + 1#16]
  | .reti | .retn | .retnMirror _ | .popIx | .popIy | .exAtSpIx | .exAtSpIy => [s.sp, s.sp + 1#16]
  | .ldRAtIxd _ d | .addAAtIxd d | .adcAAtIxd d | .subAtIxd d | .sbcAAtIxd d | .andAtIxd d | .xorAtIxd d
  | .orAtIxd d | .cpAtIxd d | .bitBAtIxd _ d | .bitBAtIxdMirror _ d _ | .rlcAtIxd d | .rrcAtIxd d | .rlAtIxd d
  | .rrAtIxd d | .slaAtIxd d | .sraAtIxd d | .sllAtIxd d | .srlAtIxd d | .ldRRlcAtIxd d _ | .ldRRrcAtIxd d _
  | .ldRRlAtIxd d _ | .ldRRrAtIxd d _ | .ldRSlaAtIxd d _ | .ldRSraAtIxd d _ | .ldRSllAtIxd d _ | .ldRSrlAtIxd d _
  | .resBAtIxd _ d | .setBAtIxd _ d | .ldRResBAtIxd _ d _ | .ldRSetBAtIxd _ d _ | .incAtIxd d | .decAtIxd d => [indexed s .ix d]
  | .ldRAtIyd _ d | .addAAtIyd d | .adcAAtIyd d | .subAtIyd d | .sbcAAtIyd d | .andAtIyd d | .xorAtIyd d
  | .orAtIyd d | .cpAtIyd d | .bitBAtIyd _ d | .bitBAtIydMirror _ d _ | .rlcAtIyd d | .rrcAtIyd d | .rlAtIyd d
  | .rrAtIyd d | .slaAtIyd d | .sraAtIyd d | .sllAtIyd d | .srlAtIyd d | .ldRRlcAtIyd d _ | .ldRRrcAtIyd d _
  | .ldRRlAtIyd d _ | .ldRRrAtIyd d _ | .ldRSlaAtIyd d _ | .ldRSraAtIyd d _ | .ldRSllAtIyd d _ | .ldRSrlAtIyd d _
  | .resBAtIyd _ d | .setBAtIyd _ d | .ldRResBAtIyd _ d _ | .ldRSetBAtIyd _ d _ | .incAtIyd d | .decAtIyd d => [indexed s .iy d]
  | .ddUnprefixed inner | .fdUnprefixed inner => readsBase inner s
  | i => readsBase i s

/-- The addresses an unprefixed instruction writes. -/
def writesBase (i : Instr) (s : State) : List Word :=
  match i with
  | .ldAtHlS _ | .ldAtHlN _ | .incAtHl | .decAtHl => [s.hl]
  | .ldAtBcA => [s.bc]
  | .ldAtDeA => [s.de]
  | .ldAtNnA nn => [nn]
  | .ldAtNnHl nn => [nn, nn + 1#16]
  | .exAtSpHl => [s.sp, s.sp + 1#16]
  | .pushRp2 _ | .callNn _ | .rstP _ => [s.sp - 1#16, s.sp - 2#16]
  | .callCcNn cc _ => if s.cond cc then [s.sp - 1#16, s.sp - 2#16] else []
  | _ => []

/-- The addresses an instruction writes. -/
def writes (i : Instr) (s : State) : List Word :=
  match i with
  | .rlcAtHl | .rrcAtHl | .rlAtHl | .rrAtHl | .slaAtHl | .sraAtHl | .sllAtHl | .srlAtHl | .resBAtHl _ | .setBAtHl _
  | .rrd | .rld | .ini | .ind | .inir | .indr => [s.hl]
  | .ldi | .ldd | .ldir | .lddr => [s.de]
  | .ldAtNnRp nn _ | .ldAtNnHlEd nn | .ldAtNnIx nn | .ldAtNnIy nn => [nn, nn + 1#16]
  | .pushIx | .pushIy => [s.sp - 1#16, s.sp - 2#16]
  | .exAtSpIx | .exAtSpIy => [s.sp, s.sp + 1#16]
  | .ldAtIxdS d _ | .ldAtIxdN d _ | .rlcAtIxd d | .rrcAtIxd d | .rlAtIxd d | .rrAtIxd d | .slaAtIxd d | .sraAtIxd d
  | .sllAtIxd d | .srlAtIxd d | .ldRRlcAtIxd d _ | .ldRRrcAtIxd d _ | .ldRRlAtIxd d _ | .ldRRrAtIxd d _
  | .ldRSlaAtIxd d _ | .ldRSraAtIxd d _ | .ldRSllAtIxd d _ | .ldRSrlAtIxd d _ | .resBAtIxd _ d | .setBAtIxd _ d
  | .ldRResBAtIxd _ d _ | .ldRSetBAtIxd _ d _ | .incAtIxd d | .decAtIxd d => [indexed s .ix d]
  | .ldAtIydS d _ | .ldAtIydN d _ | .rlcAtIyd d | .rrcAtIyd d | .rlAtIyd d | .rrAtIyd d | .slaAtIyd d | .sraAtIyd d
  | .sllAtIyd d | .srlAtIyd d | .ldRRlcAtIyd d _ | .ldRRrcAtIyd d _ | .ldRRlAtIyd d _ | .ldRRrAtIyd d _
  | .ldRSlaAtIyd d _ | .ldRSraAtIyd d _ | .ldRSllAtIyd d _ | .ldRSrlAtIyd d _ | .resBAtIyd _ d | .setBAtIyd _ d
  | .ldRResBAtIyd _ d _ | .ldRSetBAtIyd _ d _ | .incAtIyd d | .decAtIyd d => [indexed s .iy d]
  | .ddUnprefixed inner | .fdUnprefixed inner => writesBase inner s
  | i => writesBase i s

/-- Every byte the instruction reads is readable, every byte it writes lies in RAM: it meets no memory fault. -/
def Accessible (i : Instr) (s : State) : Prop :=
  (∀ a ∈ reads i s, ∃ v, Reads s a v) ∧ ∀ a ∈ writes i s, s.writable a = true

/-! ## Steps -/

/-- The last byte an instruction fetches as an opcode, which the latch then holds (30_encoding.md R303). -/
def latchByte (i : Instr) : Byte := (encode i).getD (i.m1Cycles - 1) 0#8

/-- The state in which a step executes an instruction it has fetched whole (R303 to R305). -/
def fetched (i : Instr) (s : State) : State :=
  { s.beginStep with
    pc := s.pc + BitVec.ofNat 16 i.length
    r := refresh^[i.m1Cycles] s.r
    latch := latchByte i }

/-- The state in which an instruction is executed after its first bytes, those of the row `row`, were fetched before `s`. -/
def fetchedAfter (row i : Instr) (s : State) : State :=
  { s with
    pc := s.pc + BitVec.ofNat 16 (i.length - row.length)
    r := refresh^[i.m1Cycles - row.m1Cycles] s.r
    latch := if i.m1Cycles = row.m1Cycles then s.latch else latchByte i }

/-- The bytes that identify an encoding (30_encoding.md R326). -/
def idBytes (i : Instr) : List Byte :=
  match encode i with
  | b0 :: b1 :: rest => if (b0 = 0xDD#8 ∨ b0 = 0xFD#8) ∧ b1 = 0xCB#8 then b0 :: b1 :: rest else [b0, b1]
  | bytes => bytes

/-- How many of the bytes fetched so far came by an opcode fetch: the first, and the second after a prefix byte
(30_encoding.md R302, R303). -/
def opcodeFetches (bytes : List Byte) : Nat :=
  match bytes with
  | [] => 0
  | [_] => 1
  | b0 :: _ :: _ => if b0 = 0xCB#8 ∨ b0 = 0xED#8 ∨ b0 = 0xDD#8 ∨ b0 = 0xFD#8 then 2 else 1

/-- The state once these bytes, and no more, have been fetched at PC: what R303 and R304 do for them, the latch holding the last byte
that came by an opcode fetch. -/
def partlyFetched (s : State) (bytes : List Byte) : State :=
  { s.beginStep with
    pc := s.pc + BitVec.ofNat 16 bytes.length
    r := refresh^[opcodeFetches bytes] s.r
    latch := (bytes.take (opcodeFetches bytes)).getLast?.getD s.latch }

/-- A step of this state executes an instruction with the property. -/
def Runs (s : State) (p : Instr → Prop) : Prop :=
  stepKind s.nextInput s.beginStep = .instruction ∧ ∃ i u, fetchInstr s.beginStep = .ok (i, u) ∧ p i

/-- The instruction a DD or FD row carries, else the instruction itself (30_encoding.md R323). -/
def unwrap (i : Instr) : Instr :=
  match i with
  | .ddUnprefixed inner => inner
  | .fdUnprefixed inner => inner
  | i => i

/-- The interrupt requests of this step are not accepted (60_exceptions.md R910). -/
abbrev NoAcceptance (s : State) : Prop :=
  ((s.nmiPending = false ∧ s.nextInput.nmiEdge = false) ∨ s.intBlock = .all) ∧
    (s.nextInput.intLine = false ∨ s.iff1 = false ∨ s.intBlock ≠ .none)

/-- What an INT acceptance changes before its push (60_exceptions.md R913). The inputs and events are the model's own (log 6, log 8). -/
def intChanges (s : State) : List Field :=
  [.halted, .r, .iff1, .iff2, .inputs, .events] ++ if s.ldAir then [.f, .draws] else []

/-- What an INT acceptance has done before its push (R913): no flag but PV changes, and PV only where `intChanges` lists F. -/
def IntEntered (s t : State) : Prop :=
  t.halted = false ∧ t.r = refresh s.r ∧ t.iff1 = false ∧ t.iff2 = false ∧ t.inputs = s.inputs.tail ∧ t.events = [] ∧
    t.flags = { s.flags with pv := t.flags.pv }

/-- An acceptance whose stack write fails (60_exceptions.md R907, 41_load16.md R470): what it did before the push stands, SP counts
each byte before its write, also where that write fails, a high byte stored stays stored, and PC is as it was. -/
def AcceptanceStackFaults (s : State) (changed : List Field) (entered : State → Prop) : Prop :=
  (∀ e, WriteFails s (s.sp - 1#16) e →
      ∃ left, step s = .fault (e.toFault left) ∧ Frame (.cycles :: .sp :: changed) s left ∧ left.sp = s.sp - 1#16 ∧
        entered left) ∧
    ∀ e, s.writable (s.sp - 1#16) = true → WriteFails s (s.sp - 2#16) e →
      ∃ left, step s = .fault (e.toFault left) ∧ Frame (.mem :: .cycles :: .sp :: changed) s left ∧
        left.sp = s.sp - 2#16 ∧ entered left ∧ ∀ a, left.peek a = afterStores s [(s.sp - 1#16, hiByte s.pc)] a

/-- The input access of this step: its event, and the host's answer used up (49_io.md R850). -/
def ReadsPort (s t : State) (port : Word) : Prop :=
  t.events = s.events ++ [.input port s.ioValue] ∧ t.ioAnswers = s.ioAnswers.tail

/-- The state a step leaves: the next state, or the state a fault leaves (60_exceptions.md R907); none for a refusal. -/
def leaves (res : Result) : Option State :=
  match res with
  | .next t => some t
  | .fault e => some e.left
  | .refused _ => none

/-- The bytes lie in memory at rising addresses from `a` on. -/
abbrev BytesAt (s : State) (a : Word) (bytes : List Byte) : Prop :=
  ∀ k (h : k < bytes.length), Reads s (a + BitVec.ofNat 16 k) bytes[k]

/-! ## Invariants -/

/-- Memory is in its canonical form and lists bytes of RAM components only, and the bus is what attach builds
(20_memory.md R202, R205). -/
abbrev InvMemory (s : State) : Prop :=
  s.mem.wf = true ∧ s.bus.wf ∧
    ∀ cell ∈ s.mem, cell.1 < 0x10000 ∧ s.writable (BitVec.ofNat 16 cell.1) = true

/-- The interrupt flip-flops and hidden bits agree: IFF2 keeps at least what IFF1 has, `int_only` is right after EI, a blocked
sampling point and a remembered LD A,I or LD A,R are right after an instruction that is no HALT (10_state.md R111, R116, R119). -/
abbrev InvControl (s : State) : Prop :=
  (s.iff1 = true → s.iff2 = true) ∧
    (s.intBlock = .intOnly → s.iff1 = true) ∧
    (s.intBlock ≠ .none → s.halted = false ∧ s.ldAir = false) ∧
    (s.ldAir = true → s.halted = false)

end Sys2Proof.Machine
end

