-- ==== Sys2Proof/Rules.lean ====
section
/-! DEFINITION. The spec's arithmetic and flag rules as relations between old values and new ones, written apart from the functions of
Machine/Flags.lean, and the instruction families whose rows differ only in the operation. Claims are stated in these terms; the
machine does not use them. -/

namespace Sys2Proof

/-- The other half of an index register (30_encoding.md R322). -/
def Half.other (half : Half) : Half :=
  match half with
  | .high => .low
  | .low => .high

namespace Machine

/-! ## Flags of a result -/

/-- "even number of set bits in the result (true = even)" (43_alu8.md R553). -/
def evenOnes (v : Byte) : Bool := ((List.range 8).countP fun k => v.getLsbD k) % 2 == 0

/-- S, Z, F5 and F3 of a result byte (00_scope.md R10); the other flags of `fl`. -/
def resultFlags (v : Byte) (fl : Flags) : Flags :=
  { fl with
    s := decide (128 ≤ v.toNat)
    z := decide (v.toNat = 0)
    f5 := decide (v.toNat / 32 % 2 = 1)
    f3 := decide (v.toNat / 8 % 2 = 1) }

/-- S, Z, F5 and F3 of a 16-bit result: bits 5 and 3 from the high byte (45_alu16.md R651). -/
def resultFlags16 (v : Word) (fl : Flags) : Flags :=
  { fl with
    s := decide (0x8000 ≤ v.toNat)
    z := decide (v.toNat = 0)
    f5 := decide (v.toNat / 0x2000 % 2 = 1)
    f3 := decide (v.toNat / 0x800 % 2 = 1) }

/-- "operands share a sign and the result's sign differs" for an addition, the top bit having this weight (43_alu8.md R550). -/
def addOverflow (weight a b res : Nat) : Bool := decide (a / weight = b / weight ∧ res / weight ≠ a / weight)

/-- The same for a subtraction: the operands differ in sign and the result's sign differs from the first one's (R551,
90_conflicts.md C8). -/
def subOverflow (weight a b res : Nat) : Bool := decide (a / weight ≠ b / weight ∧ res / weight ≠ a / weight)

/-! ## 8-bit arithmetic and logic (43_alu8.md R550 to R556) -/

/-- `Add8(a, b, c)` (R550). -/
def Add8Rule (a b : Byte) (c : Bool) (res : Byte) (fl : Flags) : Prop :=
  res.toNat = (a.toNat + b.toNat + c.toNat) % 256 ∧
    fl = resultFlags res
      { s := false, z := false, f5 := false, f3 := false
        h := decide (a.toNat % 16 + b.toNat % 16 + c.toNat > 15)
        pv := addOverflow 128 a.toNat b.toNat res.toNat
        n := false
        c := decide (a.toNat + b.toNat + c.toNat > 255) }

/-- `Sub8(a, b, c)` (R551). -/
def Sub8Rule (a b : Byte) (c : Bool) (res : Byte) (fl : Flags) : Prop :=
  res.toNat = (a.toNat + 512 - b.toNat - c.toNat) % 256 ∧
    fl = resultFlags res
      { s := false, z := false, f5 := false, f3 := false
        h := decide (a.toNat % 16 < b.toNat % 16 + c.toNat)
        pv := subOverflow 128 a.toNat b.toNat res.toNat
        n := true
        c := decide (a.toNat < b.toNat + c.toNat) }

/-- `Logic8` (R553): the flags of a result, H = 1 for AND alone. -/
def LogicRule (isAnd : Bool) (value res : Byte) (fl : Flags) : Prop :=
  res = value ∧
    fl = resultFlags res
      { s := false, z := false, f5 := false, f3 := false, h := isAnd, pv := evenOnes res, n := false, c := false }

/-- The eight accumulator operations (R560 to R567): the new A and F from A, the operand and C. -/
def AluRule (op : AluOp) (a v : Byte) (c : Bool) (res : Byte) (fl : Flags) : Prop :=
  match op with
  | .add => Add8Rule a v false res fl
  | .adc => Add8Rule a v c res fl
  | .sub => Sub8Rule a v false res fl
  | .sbc => Sub8Rule a v c res fl
  | .and => LogicRule true (a &&& v) res fl
  | .xor => LogicRule false (a ^^^ v) res fl
  | .or => LogicRule false (a ||| v) res fl
  | .cp => res = a ∧ ∃ dif g, Sub8Rule a v false dif g ∧ fl = { g with f5 := v.getLsbD 5, f3 := v.getLsbD 3 }

/-- `Inc8(v)` (R555): C as before. -/
def Inc8Rule (v : Byte) (old : Flags) (res : Byte) (fl : Flags) : Prop :=
  res.toNat = (v.toNat + 1) % 256 ∧
    fl = resultFlags res
      { old with h := decide (v.toNat % 16 = 15), pv := decide (v.toNat = 0x7F), n := false }

/-- `Dec8(v)` (R556): C as before. -/
def Dec8Rule (v : Byte) (old : Flags) (res : Byte) (fl : Flags) : Prop :=
  res.toNat = (v.toNat + 255) % 256 ∧
    fl = resultFlags res
      { old with h := decide (v.toNat % 16 = 0), pv := decide (v.toNat = 0x80), n := true }

/-- INC or DEC of a byte. -/
def StepRule (up : Bool) (v : Byte) (old : Flags) (res : Byte) (fl : Flags) : Prop :=
  if up then Inc8Rule v old res fl else Dec8Rule v old res fl

/-- DAA (44_general_control.md R600). -/
def DaaRule (a : Byte) (old : Flags) (res : Byte) (fl : Flags) : Prop :=
  let lo := a.toNat % 16
  let high := old.c || decide (a.toNat > 0x99)
  let corr := (if old.h || decide (lo > 9) then 0x06 else 0) + (if high then 0x60 else 0)
  res.toNat = (if old.n then a.toNat + 256 - corr else a.toNat + corr) % 256 ∧
    fl = resultFlags res
      { old with
        h := if old.n then old.h && decide (lo < 6) else decide (lo > 9)
        pv := evenOnes res
        c := high }

/-! ## 16-bit arithmetic (45_alu16.md R650 to R652) -/

/-- `Add16(a, b)` (R650): S, Z and PV as before. -/
def Add16Rule (a b : Word) (old : Flags) (res : Word) (fl : Flags) : Prop :=
  res.toNat = (a.toNat + b.toNat) % 0x10000 ∧
    fl = { resultFlags16 res old with
      s := old.s
      z := old.z
      h := decide (a.toNat % 0x1000 + b.toNat % 0x1000 > 0xFFF)
      n := false
      c := decide (a.toNat + b.toNat > 0xFFFF) }

/-- `Adc16(a, b, c)` (R651). -/
def Adc16Rule (a b : Word) (c : Bool) (res : Word) (fl : Flags) : Prop :=
  res.toNat = (a.toNat + b.toNat + c.toNat) % 0x10000 ∧
    fl = resultFlags16 res
      { s := false, z := false, f5 := false, f3 := false
        h := decide (a.toNat % 0x1000 + b.toNat % 0x1000 + c.toNat > 0xFFF)
        pv := addOverflow 0x8000 a.toNat b.toNat res.toNat
        n := false
        c := decide (a.toNat + b.toNat + c.toNat > 0xFFFF) }

/-- `Sbc16(a, b, c)` (R652). -/
def Sbc16Rule (a b : Word) (c : Bool) (res : Word) (fl : Flags) : Prop :=
  res.toNat = (a.toNat + 0x20000 - b.toNat - c.toNat) % 0x10000 ∧
    fl = resultFlags16 res
      { s := false, z := false, f5 := false, f3 := false
        h := decide (a.toNat % 0x1000 < b.toNat % 0x1000 + c.toNat)
        pv := subOverflow 0x8000 a.toNat b.toNat res.toNat
        n := true
        c := decide (a.toNat < b.toNat + c.toNat) }

/-! ## Rotates, shifts and bits (46_rotate_shift.md R704, 47_bit.md R760) -/

/-- The result column of R704's table, as a number. -/
def rotValue (op : RotOp) (v : Byte) (c : Bool) : Nat :=
  let left := v.toNat * 2 % 256
  let right := v.toNat / 2
  let top := v.toNat / 128
  let bottom := v.toNat % 2
  match op with
  | .rlc => left + top
  | .rrc => right + 128 * bottom
  | .rl => left + c.toNat
  | .rr => right + 128 * c.toNat
  | .sla => left
  | .sra => right + 128 * top
  | .sll => left + 1
  | .srl => right

/-- The carry column: bit 7 for the operations to the left, bit 0 for those to the right. -/
def rotOut (op : RotOp) (v : Byte) : Bool :=
  match op with
  | .rlc | .rl | .sla | .sll => decide (128 ≤ v.toNat)
  | .rrc | .rr | .sra | .srl => decide (v.toNat % 2 = 1)

/-- `Rot(op, v)` (R704). -/
def RotRule (op : RotOp) (v : Byte) (c : Bool) (res : Byte) (fl : Flags) : Prop :=
  res.toNat = rotValue op v c ∧
    fl = resultFlags res
      { s := false, z := false, f5 := false, f3 := false
        h := false, pv := evenOnes res, n := false, c := rotOut op v }

/-- An accumulator rotate (R700 to R703): S, Z and PV as before. -/
def RotARule (op : RotOp) (a : Byte) (old : Flags) (res : Byte) (fl : Flags) : Prop :=
  res.toNat = rotValue op a old.c ∧
    fl = { resultFlags res old with s := old.s, z := old.z, h := false, n := false, c := rotOut op a }

/-- The flags RLD, RRD, IN r,(C) and IN F,(C) set from a byte: C as before (R714, 49_io.md R853). -/
def ByteFlagsRule (v : Byte) (old fl : Flags) : Prop :=
  fl = resultFlags v { old with h := false, pv := evenOnes v, n := false }

/-- `BitTest(b, v, xy)` (R760): C as before. -/
def BitRule (bit : Fin 8) (v xy : Byte) (old fl : Flags) : Prop :=
  fl = { old with
    s := decide (bit.val = 7 ∧ v.getLsbD 7 = true)
    z := !v.getLsbD bit.val
    f5 := xy.getLsbD 5
    h := true
    f3 := xy.getLsbD 3
    pv := !v.getLsbD bit.val
    n := false }

/-- RES or SET of one bit: that bit is as given, the others as before (R770, R771). -/
def BitChangeRule (bit : Fin 8) (on : Bool) (v res : Byte) : Prop :=
  ∀ k : Fin 8, res.getLsbD k.val = if k = bit then on else v.getLsbD k.val

/-! ## Block instructions (42_exchange_block.md R506, R510; 49_io.md R866) -/

/-- The flags of a block load, `count` being BC after its decrement (R506). -/
def BlockLoadRule (v a : Byte) (count : Word) (old fl : Flags) : Prop :=
  fl = { old with
    h := false
    n := false
    pv := decide (count.toNat ≠ 0)
    f3 := decide ((v.toNat + a.toNat) / 8 % 2 = 1)
    f5 := decide ((v.toNat + a.toNat) / 2 % 2 = 1) }

/-- The flags of a block compare, `count` being BC after its decrement (R510): C as before. -/
def BlockCompareRule (a v : Byte) (count : Word) (old fl : Flags) : Prop :=
  let borrow := decide (a.toNat % 16 < v.toNat % 16)
  let dif := (a.toNat + 256 - v.toNat) % 256
  let n := dif + 256 - borrow.toNat
  fl = { old with
    s := decide (128 ≤ dif)
    z := decide (a = v)
    h := borrow
    n := true
    pv := decide (count.toNat ≠ 0)
    f3 := decide (n / 8 % 2 = 1)
    f5 := decide (n / 2 % 2 = 1) }

/-- The flags of a block I/O instruction: `t` the byte moved, `b` the counter after its decrement, `k` as its rule says (R866). -/
def BlockIoRule (t b : Byte) (k : Nat) (fl : Flags) : Prop :=
  fl = resultFlags b
    { s := false, z := false, f5 := false, f3 := false
      h := decide (k > 255)
      pv := evenOnes (BitVec.ofNat 8 (k % 8) ^^^ b)
      n := decide (128 ≤ t.toNat)
      c := decide (k > 255) }

/-- A repeating iteration leaves F5 and F3 to draws (R505): the other flags are as the rule of one iteration gives them. -/
def repeatFlags (again : Bool) (fl new : Flags) : Prop :=
  if again then new = { fl with f5 := new.f5, f3 := new.f3 } else new = fl

/-- A repeating block I/O iteration leaves H and PV to draws too (R866). -/
def repeatFlagsIo (again : Bool) (fl new : Flags) : Prop :=
  if again then new = { fl with h := new.h, pv := new.pv, f5 := new.f5, f3 := new.f3 } else new = fl

/-! ## Conditions and halves -/

/-- "true when" of the table of conditions (10_state.md R110). -/
def ConditionHolds (cc : Cond) (fl : Flags) : Prop :=
  match cc with
  | .nz => fl.z = false
  | .z => fl.z = true
  | .nc => fl.c = false
  | .c => fl.c = true
  | .po => fl.pv = false
  | .pe => fl.pv = true
  | .p => fl.s = false
  | .m => fl.s = true

/-! ## Families of rows -/

/-- `op r`. -/
def aluReg (op : AluOp) (src : Reg8) : Instr :=
  match op with
  | .add => .addAS src
  | .adc => .adcAS src
  | .sub => .subS src
  | .sbc => .sbcAS src
  | .and => .andS src
  | .xor => .xorS src
  | .or => .orS src
  | .cp => .cpS src

/-- `op n`. -/
def aluImm (op : AluOp) (n : Byte) : Instr :=
  match op with
  | .add => .addAN n
  | .adc => .adcAN n
  | .sub => .subN n
  | .sbc => .sbcAN n
  | .and => .andN n
  | .xor => .xorN n
  | .or => .orN n
  | .cp => .cpN n

/-- `op (HL)`. -/
def aluHl (op : AluOp) : Instr :=
  match op with
  | .add => .addAAtHl
  | .adc => .adcAAtHl
  | .sub => .subAtHl
  | .sbc => .sbcAAtHl
  | .and => .andAtHl
  | .xor => .xorAtHl
  | .or => .orAtHl
  | .cp => .cpAtHl

/-- `op XYH` and `op XYL`. -/
def aluHalf (op : AluOp) (x : XY) (half : Half) : Instr :=
  match op with
  | .add => x.pick (.addAIxHalf half) (.addAIyHalf half)
  | .adc => x.pick (.adcAIxHalf half) (.adcAIyHalf half)
  | .sub => x.pick (.subIxHalf half) (.subIyHalf half)
  | .sbc => x.pick (.sbcAIxHalf half) (.sbcAIyHalf half)
  | .and => x.pick (.andIxHalf half) (.andIyHalf half)
  | .xor => x.pick (.xorIxHalf half) (.xorIyHalf half)
  | .or => x.pick (.orIxHalf half) (.orIyHalf half)
  | .cp => x.pick (.cpIxHalf half) (.cpIyHalf half)

/-- `op (XY+d)`. -/
def aluXy (op : AluOp) (x : XY) (d : Byte) : Instr :=
  match op with
  | .add => x.pick (.addAAtIxd d) (.addAAtIyd d)
  | .adc => x.pick (.adcAAtIxd d) (.adcAAtIyd d)
  | .sub => x.pick (.subAtIxd d) (.subAtIyd d)
  | .sbc => x.pick (.sbcAAtIxd d) (.sbcAAtIyd d)
  | .and => x.pick (.andAtIxd d) (.andAtIyd d)
  | .xor => x.pick (.xorAtIxd d) (.xorAtIyd d)
  | .or => x.pick (.orAtIxd d) (.orAtIyd d)
  | .cp => x.pick (.cpAtIxd d) (.cpAtIyd d)

/-- `rot r`. -/
def rotReg (op : RotOp) (r : Reg8) : Instr :=
  match op with
  | .rlc => .rlcR r
  | .rrc => .rrcR r
  | .rl => .rlR r
  | .rr => .rrR r
  | .sla => .slaR r
  | .sra => .sraR r
  | .sll => .sllR r
  | .srl => .srlR r

/-- `rot (HL)`. -/
def rotHl (op : RotOp) : Instr :=
  match op with
  | .rlc => .rlcAtHl
  | .rrc => .rrcAtHl
  | .rl => .rlAtHl
  | .rr => .rrAtHl
  | .sla => .slaAtHl
  | .sra => .sraAtHl
  | .sll => .sllAtHl
  | .srl => .srlAtHl

/-- `rot (XY+d)`. -/
def rotXy (op : RotOp) (x : XY) (d : Byte) : Instr :=
  match op with
  | .rlc => x.pick (.rlcAtIxd d) (.rlcAtIyd d)
  | .rrc => x.pick (.rrcAtIxd d) (.rrcAtIyd d)
  | .rl => x.pick (.rlAtIxd d) (.rlAtIyd d)
  | .rr => x.pick (.rrAtIxd d) (.rrAtIyd d)
  | .sla => x.pick (.slaAtIxd d) (.slaAtIyd d)
  | .sra => x.pick (.sraAtIxd d) (.sraAtIyd d)
  | .sll => x.pick (.sllAtIxd d) (.sllAtIyd d)
  | .srl => x.pick (.srlAtIxd d) (.srlAtIyd d)

/-- `LD r,rot (XY+d)`. -/
def rotCopy (op : RotOp) (x : XY) (d : Byte) (r : Reg8) : Instr :=
  match op with
  | .rlc => x.pick (.ldRRlcAtIxd d r) (.ldRRlcAtIyd d r)
  | .rrc => x.pick (.ldRRrcAtIxd d r) (.ldRRrcAtIyd d r)
  | .rl => x.pick (.ldRRlAtIxd d r) (.ldRRlAtIyd d r)
  | .rr => x.pick (.ldRRrAtIxd d r) (.ldRRrAtIyd d r)
  | .sla => x.pick (.ldRSlaAtIxd d r) (.ldRSlaAtIyd d r)
  | .sra => x.pick (.ldRSraAtIxd d r) (.ldRSraAtIyd d r)
  | .sll => x.pick (.ldRSllAtIxd d r) (.ldRSllAtIyd d r)
  | .srl => x.pick (.ldRSrlAtIxd d r) (.ldRSrlAtIyd d r)

/-- `RES b,r` and `SET b,r`. -/
def bitChangeReg (on : Bool) (bit : Fin 8) (r : Reg8) : Instr := if on then .setBR bit r else .resBR bit r

/-- `RES b,(HL)` and `SET b,(HL)`. -/
def bitChangeHl (on : Bool) (bit : Fin 8) : Instr := if on then .setBAtHl bit else .resBAtHl bit

/-- `RES b,(XY+d)` and `SET b,(XY+d)`. -/
def bitChangeXy (on : Bool) (bit : Fin 8) (x : XY) (d : Byte) : Instr :=
  if on then x.pick (.setBAtIxd bit d) (.setBAtIyd bit d) else x.pick (.resBAtIxd bit d) (.resBAtIyd bit d)

/-- `LD r,RES b,(XY+d)` and `LD r,SET b,(XY+d)`. -/
def bitChangeCopy (on : Bool) (bit : Fin 8) (x : XY) (d : Byte) (r : Reg8) : Instr :=
  if on then x.pick (.ldRSetBAtIxd bit d r) (.ldRSetBAtIyd bit d r)
  else x.pick (.ldRResBAtIxd bit d r) (.ldRResBAtIyd bit d r)

/-- `INC r`, `DEC r`. -/
def countRegRow (up : Bool) (r : Reg8) : Instr := if up then .incR r else .decR r

/-- `INC (HL)`, `DEC (HL)`. -/
def countHlRow (up : Bool) : Instr := if up then .incAtHl else .decAtHl

/-- `INC (XY+d)`, `DEC (XY+d)`. -/
def countXyRow (up : Bool) (x : XY) (d : Byte) : Instr :=
  if up then x.pick (.incAtIxd d) (.incAtIyd d) else x.pick (.decAtIxd d) (.decAtIyd d)

/-- `INC XYH`, `INC XYL`, `DEC XYH`, `DEC XYL`. -/
def countHalfRow (up : Bool) (x : XY) (half : Half) : Instr :=
  if up then x.pick (.incIxHalf half) (.incIyHalf half) else x.pick (.decIxHalf half) (.decIyHalf half)

/-- RLCA, RLA, RRCA, RRA. -/
def rotARow (op : RotOp) : Option Instr :=
  match op with
  | .rlc => some .rlca
  | .rrc => some .rrca
  | .rl => some .rla
  | .rr => some .rra
  | .sla => none
  | .sra => none
  | .sll => none
  | .srl => none

/-- LDI, LDD, LDIR, LDDR. -/
def blockLoadRow (dir : Dir) (repeats : Bool) : Instr :=
  match dir, repeats with
  | .up, false => .ldi
  | .down, false => .ldd
  | .up, true => .ldir
  | .down, true => .lddr

/-- CPI, CPD, CPIR, CPDR. -/
def blockCompareRow (dir : Dir) (repeats : Bool) : Instr :=
  match dir, repeats with
  | .up, false => .cpi
  | .down, false => .cpd
  | .up, true => .cpir
  | .down, true => .cpdr

/-- INI, IND, INIR, INDR. -/
def blockInRow (dir : Dir) (repeats : Bool) : Instr :=
  match dir, repeats with
  | .up, false => .ini
  | .down, false => .ind
  | .up, true => .inir
  | .down, true => .indr

/-- OUTI, OUTD, OTIR, OTDR. -/
def blockOutRow (dir : Dir) (repeats : Bool) : Instr :=
  match dir, repeats with
  | .up, false => .outi
  | .down, false => .outd
  | .up, true => .otir
  | .down, true => .otdr

end Machine

end Sys2Proof
end

