-- ==== Sys2Proof/Certificates/Slice0/Obligations.lean ====
section
/-! DEFINITION. The statements for the provers. An instruction's statements are about `exec`, which is entered when its bytes have
been fetched (log 12); `StepRunsTheDecodedInstruction` carries them to a step. -/

section

open Sys2Proof Sys2Proof.Machine

/-- Decode of encode is the instruction (30_encoding.md section 3 (R310, R311), 30_encoding.md section 5 (R315 to R319),
30_encoding.md section 6 (R320 to R324)). -/
def Obligations.DecodeOfEncodeIsTheInstruction : Prop :=
  ∀ i : Instr, i.wf = true → decode (encode i) = .ok (i, i.length)

/-- A decoded instruction is well-formed and the bytes begin with its encoding (30_encoding.md R307, 30_encoding.md R312).
-/
def Obligations.DecodeReadsItsEncoding : Prop :=
  ∀ (bytes : List Byte) (i : Instr) (len : Nat), decode bytes = .ok (i, len) →
    i.wf = true ∧ encode i <+: bytes ∧ len = i.length ∧ 1 ≤ len ∧ len ≤ 4

/-- Every byte sequence decodes, and no step is an unknown opcode under the execute policy (R327). -/
def Obligations.EverySequenceDecodes : Prop :=
  (∀ bytes : List Byte, 4 ≤ bytes.length →
      ∃ i len, decode bytes = .ok (i, len) ∧ i.isPrefixRow = false) ∧
    ∀ (s : State) (bytes : List Byte) (left : State), s.params.undocPolicy = .execute →
      step s ≠ .fault (.unknownOpcode bytes left)

/-- Words written out from the encoding tables decode to their instructions (30_encoding.md R302, 30_encoding.md R316,
30_encoding.md R317, 30_encoding.md R318, 30_encoding.md R319, 30_encoding.md R323, 30_encoding.md R324). -/
def Obligations.SpecWordsDecode : Prop :=
  decode [0x36#8, 0xE7#8] = .ok (.ldAtHlN 0xE7#8, 2) ∧
    decode [0xCB#8, 0x7C#8] = .ok (.bitBR 7 .h, 2) ∧
    decode [0xED#8, 0x5B#8, 0x00#8, 0x80#8] = .ok (.ldRpAtNn .de 0x8000#16, 4) ∧
    decode [0xDD#8, 0x36#8, 0x03#8, 0x21#8] = .ok (.ldAtIxdN 0x03#8 0x21#8, 4) ∧
    decode [0xFD#8, 0x60#8] = .ok (.ldRSIyHalf .xh .b, 2) ∧
    decode [0xDD#8, 0xCB#8, 0x05#8, 0x46#8] = .ok (.bitBAtIxd 0 0x05#8, 4) ∧
    decode [0xFD#8, 0xCB#8, 0xFE#8, 0xC6#8] = .ok (.setBAtIyd 0 0xFE#8, 4) ∧
    decode [0xDD#8, 0xEB#8] = .ok (.ddUnprefixed .exDeHl, 2) ∧
    decode [0xDD#8, 0xFD#8, 0x21#8] = .ok (.ignoredDd .fd, 1)

/-- A step runs the instruction whose bytes stand at PC (30_encoding.md R300, 30_encoding.md R302, 30_encoding.md R303,
30_encoding.md R304, 30_encoding.md R308, 30_encoding.md R326). -/
def Obligations.StepRunsTheDecodedInstruction : Prop :=
  ∀ (s : State) (i : Instr), stepKind s.nextInput s.beginStep = .instruction →
    i.wf = true → i.isPrefixRow = false → (s.params.undocPolicy = .execute ∨ i.documented = true) →
    BytesAt s s.pc (encode i) →
    step s = endStep (endOf i).1 (endOf i).2 (exec i (fetched i s))

/-- Every step keeps memory canonical and inside the RAM components (20_memory.md R202, 20_memory.md R205, 20_memory.md
R208, 20_memory.md R213). -/
def Obligations.StepKeepsMemoryForm : Prop :=
  ∀ s t : State, InvMemory s → step s = .next t → InvMemory t

/-- Every step keeps the interrupt flip-flops and hidden bits consistent (10_state.md R111, 10_state.md R115, 10_state.md
R116, 10_state.md R119, 60_exceptions.md R917). -/
def Obligations.StepKeepsControlBits : Prop :=
  ∀ s t : State, InvControl s → step s = .next t → InvControl t

/-- The state after reset satisfies both invariants (70_reset_and_hazards.md R952). -/
def Obligations.ResetSatisfiesInvariants : Prop :=
  InvMemory State.reset ∧ InvControl State.reset

/-- No step changes the bus, a byte outside RAM, or the parameters (the last by log 4) (20_memory.md R213, 10_state.md R100,
20_memory.md R206, 20_memory.md R208, log 4). -/
def Obligations.StepKeepsBusAndRom : Prop :=
  ∀ s t : State, leaves (step s) = some t →
    t.bus = s.bus ∧ t.params = s.params ∧ ∀ a, s.writable a = false → t.peek a = s.peek a

/-- Reset sets the architectural state and leaves memory, the bus and (by log 4 and log 16) the parameters
(70_reset_and_hazards.md R951, 70_reset_and_hazards.md R952, log 1, log 4, log 16). -/
def Obligations.ResetSetsItsTable : Prop :=
  (∀ (s : State) (w : ResetDraws),
      let t := s.resetTo w
      (t.pc = 0x0000#16 ∧ t.i = 0x00#8 ∧ t.r = 0x00#8 ∧ t.iff1 = false ∧ t.iff2 = false ∧ t.im = .im0) ∧
        (t.halted = false ∧ t.intBlock = .none ∧ t.nmiPending = false ∧ t.ldAir = false) ∧
        (t.a = w.a ∧ t.f = w.f ∧ t.b = w.b ∧ t.c = w.c ∧ t.d = w.d ∧ t.e = w.e ∧ t.h = w.h ∧ t.l = w.l) ∧
        (t.altA = w.altA ∧ t.altF = w.altF ∧ t.altB = w.altB ∧ t.altC = w.altC ∧ t.altD = w.altD ∧
          t.altE = w.altE ∧ t.altH = w.altH ∧ t.altL = w.altL) ∧
        (t.ix = w.ix ∧ t.iy = w.iy ∧ t.sp = w.sp ∧ t.latch = w.latch) ∧
        (t.mem = s.mem ∧ t.bus = s.bus ∧ t.params = s.params)) ∧
    ∃ w, State.reset = State.reset.resetTo w

/-- R counts M1 cycles modulo 128 and keeps bit 7 (R112). -/
def Obligations.RefreshCountsOpcodeFetches : Prop :=
  (∀ r : Byte, (refresh r).toNat = r.toNat / 128 * 128 + (r.toNat % 128 + 1) % 128) ∧
    (∀ s t : State, step s = .next t →
      match stepKind s.nextInput s.beginStep with
      | .instruction => ∃ i u, fetchInstr s.beginStep = .ok (i, u) ∧ u.r = refresh^[i.m1Cycles] s.r ∧
          (i ≠ .ldRA → t.r = u.r)
      | _ => t.r = refresh s.r) ∧
    ∀ i : Instr, i.wf = true → i.isPrefixRow = false →
      i.m1Cycles = if i.length = 1 then 1
        else if (encode i).head? ∈ [some 0xCB#8, some 0xED#8, some 0xDD#8, some 0xFD#8] then 2 else 1

/-- Only EX AF and EXX write an alternate register (10_state.md R103, 42_exchange_block.md R500, 42_exchange_block.md R502).
-/
def Obligations.AlternatesMoveOnlyByExchange : Prop :=
  ∀ (i : Instr) (s t : State), i.isPrefixRow = false → unwrap i ≠ .exAfAf → unwrap i ≠ .exx → exec i s = .next t →
    ∀ x ∈ [Field.altA, .altF, .altB, .altC, .altD, .altE, .altH, .altL], x.same s t

/-- Only the named instructions write IFF1, IFF2, IM, I and halted (10_state.md R111, 10_state.md R115,
44_general_control.md section 2 (R611 to R617), 48_jump_call_return.md R817, 48_jump_call_return.md R818). -/
def Obligations.ControlStateHasFewWriters : Prop :=
  ∀ (i : Instr) (s t : State), i.isPrefixRow = false → exec i s = .next t →
    (unwrap i ≠ .ei → unwrap i ≠ .di → t.iff2 = s.iff2) ∧
      (unwrap i ≠ .ei → unwrap i ≠ .di → i ≠ .reti → i ≠ .retn → (∀ y, i ≠ .retnMirror y) → t.iff1 = s.iff1) ∧
      (i ∉ [.im0, .im0Mirror, .im1, .im1Mirror, .im2, .im2Mirror, .im01 false, .im01 true] → t.im = s.im) ∧
      (i ≠ .ldIA → t.i = s.i) ∧
      (unwrap i ≠ .halt → t.halted = s.halted) ∧
      t.nmiPending = s.nmiPending ∧ t.inputs = s.inputs

/-- A step with a latched NMI enters the handler at 0x0066 (60_exceptions.md R912, 60_exceptions.md R907, 41_load16.md R470,
log 6, log 8). -/
def Obligations.NmiAcceptance : Prop :=
  ∀ s : State, (s.nmiPending = true ∨ s.nextInput.nmiEdge = true) → s.intBlock ≠ .all →
    let changed := [Field.halted, .r, .nmiPending, .iff1, .inputs, .events]
    let entered (t : State) : Prop :=
      t.halted = false ∧ t.r = refresh s.r ∧ t.nmiPending = false ∧ t.iff1 = false ∧ t.iff2 = s.iff2 ∧
        t.inputs = s.inputs.tail ∧ t.events = []
    (s.writable (s.sp - 1#16) = true → s.writable (s.sp - 2#16) = true →
        Yields (step s) s ([.sp, .pc, .intBlock, .ldAir] ++ changed)
          [(s.sp - 1#16, hiByte s.pc), (s.sp - 2#16, loByte s.pc)] 11
          fun t => entered t ∧ t.sp = s.sp - 2#16 ∧ t.pc = 0x0066#16 ∧ t.intBlock = .none ∧ t.ldAir = false) ∧
      AcceptanceStackFaults s changed entered

/-- INT acceptance in modes 0 and 1, its stack faults, and the bus bytes mode 0 refuses (60_exceptions.md R913,
60_exceptions.md R914, 60_exceptions.md R907, 41_load16.md R470, log 6, log 8). -/
def Obligations.IntAcceptanceInModes0And1 : Prop :=
  ∀ s : State, s.nmiPending = false → s.nextInput.nmiEdge = false → s.nextInput.intLine = true → s.iff1 = true →
    s.intBlock = .none →
    let bus := s.nextInput.busByte
    let accepted (target : Word) : Prop :=
      (s.writable (s.sp - 1#16) = true → s.writable (s.sp - 2#16) = true →
          Yields (step s) s ([.sp, .pc, .ldAir] ++ intChanges s)
            [(s.sp - 1#16, hiByte s.pc), (s.sp - 2#16, loByte s.pc)] 13
            fun t => IntEntered s t ∧ t.sp = s.sp - 2#16 ∧ t.pc = target ∧ t.ldAir = false) ∧
        AcceptanceStackFaults s (intChanges s) (IntEntered s)
    (s.im = .im1 → accepted 0x0038#16) ∧
      (s.im = .im0 → bus.toNat % 8 = 7 → 0xC0 ≤ bus.toNat → accepted (BitVec.ofNat 16 (bus.toNat / 8 % 8 * 8))) ∧
      (s.im = .im0 → ¬(bus.toNat % 8 = 7 ∧ 0xC0 ≤ bus.toNat) → step s = .refused (.im0BusByte bus))

/-- INT acceptance in mode 2 reads its vector after the push, and its stack and vector faults (60_exceptions.md R913,
60_exceptions.md R915, 60_exceptions.md R907, 41_load16.md R470, log 6, log 8). -/
def Obligations.IntAcceptanceInMode2 : Prop :=
  ∀ s : State, s.nmiPending = false → s.nextInput.nmiEdge = false → s.nextInput.intLine = true → s.iff1 = true →
    s.intBlock = .none → s.im = .im2 →
    let v := pair s.i s.nextInput.busByte
    let stack := [(s.sp - 1#16, hiByte s.pc), (s.sp - 2#16, loByte s.pc)]
    let pushedOnly (e : AccessError) : Prop :=
      ∃ left, step s = .fault (e.toFault left) ∧ Frame (.mem :: .cycles :: .sp :: intChanges s) s left ∧
        left.sp = s.sp - 2#16 ∧ IntEntered s left ∧ ∀ a, left.peek a = afterStores s stack a
    (s.writable (s.sp - 1#16) = true → s.writable (s.sp - 2#16) = true →
        (∀ lo hi, afterStores s stack v = .ok lo → afterStores s stack (v + 1#16) = .ok hi →
            Yields (step s) s ([.sp, .pc, .ldAir] ++ intChanges s) stack 19
              fun t => IntEntered s t ∧ t.sp = s.sp - 2#16 ∧ t.pc = pair hi lo ∧ t.ldAir = false) ∧
          (∀ e, afterStores s stack v = .error e → pushedOnly e) ∧
          ∀ lo e, afterStores s stack v = .ok lo → afterStores s stack (v + 1#16) = .error e → pushedOnly e) ∧
      AcceptanceStackFaults s (intChanges s) (IntEntered s)

/-- A masked INT request and an unread bus byte cannot be learned (60_exceptions.md R910, 60_exceptions.md R911,
60_exceptions.md R916, 44_general_control.md R613, log 6). -/
def Obligations.MaskedRequestsHaveNoEffect : Prop :=
  ∀ (s : State) (x y : HostInput) (rest : List HostInput), x.nmiEdge = y.nmiEdge →
    (s.iff1 = false ∨ s.intBlock ≠ .none ∨ (x.intLine = false ∧ y.intLine = false) ∨
      (s.im = .im1 ∧ x.intLine = y.intLine) ∨
      (s.intBlock ≠ .all ∧ (s.nmiPending = true ∨ x.nmiEdge = true))) →
    step { s with inputs := x :: rest } = step { s with inputs := y :: rest }

/-- A halted step counts R and 4 T-states and changes nothing else (60_exceptions.md R920, 60_exceptions.md R910, log 6, log
8). -/
def Obligations.HaltedStep : Prop :=
  ∀ s : State, s.halted = true → NoAcceptance s →
    Yields (step s) s [.r, .intBlock, .ldAir, .nmiPending, .inputs, .events] [] 4
      fun t => t.r = refresh s.r ∧ t.intBlock = .none ∧ t.ldAir = false ∧
        t.nmiPending = (s.nmiPending || s.nextInput.nmiEdge) ∧ t.inputs = s.inputs.tail ∧ t.events = []

/-- What a step leaves in int_block and ld_air, and what the next sampling point then accepts (10_state.md R116, 10_state.md
R119, 30_encoding.md R324, 44_general_control.md R613, 60_exceptions.md R910, 60_exceptions.md R917, log 6). -/
def Obligations.HiddenBitsAtStepEnd : Prop :=
  ∀ s t : State, step s = .next t →
    (t.intBlock = .intOnly ↔ Runs s fun i => unwrap i = .ei) ∧
      (t.intBlock = .all ↔ Runs s fun i => (∃ n, i = .ignoredDd n) ∨ ∃ n, i = .ignoredFd n) ∧
      (t.ldAir = true ↔ Runs s fun i => i = .ldAI ∨ i = .ldAR) ∧
      ∀ queue : List HostInput,
        let u := { t with inputs := queue }
        (t.intBlock = .intOnly → stepKind u.nextInput u.beginStep =
            if t.nmiPending || u.nextInput.nmiEdge then .nmi else .instruction) ∧
          (t.intBlock = .all → stepKind u.nextInput u.beginStep = .instruction)

/-- A fetch fault leaves PC, R and the latch as the bytes fetched say, and all else as it was (30_encoding.md R302,
30_encoding.md R303, 30_encoding.md R304, 30_encoding.md R326, 60_exceptions.md R901, 60_exceptions.md R903,
60_exceptions.md R907, log 13). -/
def Obligations.FetchFaultKeepsTheRest : Prop :=
  ∀ s : State, stepKind s.nextInput s.beginStep = .instruction →
    (∀ e, fetchInstr s.beginStep = .error e →
        step s = .fault e ∧
          ((∃ (bytes : List Byte) (err : AccessError), bytes.length ≤ 3 ∧ BytesAt s s.pc bytes ∧
              s.peek (s.pc + BitVec.ofNat 16 bytes.length) = .error err ∧ e = err.toFault (partlyFetched s bytes)) ∨
            s.params.undocPolicy = .fault ∧
              ∃ bytes, e = .unknownOpcode bytes e.left ∧ documented bytes = false ∧ BytesAt s s.pc bytes)) ∧
      ∀ (i : Instr) (k : Nat) (err : AccessError), i.wf = true → i.isPrefixRow = false → k < (encode i).length →
        (s.params.undocPolicy = .execute ∨ i.documented = true ∨ k < (idBytes i).length) →
        BytesAt s s.pc ((encode i).take k) → s.peek (s.pc + BitVec.ofNat 16 k) = .error err →
        step s = .fault (err.toFault (partlyFetched s ((encode i).take k)))

/-- Under the fault policy an undocumented encoding raises UnknownOpcode before any effect (an ignored prefix with the byte
looked at, by log 13) (30_encoding.md R326, 60_exceptions.md R903, log 13). -/
def Obligations.UndocumentedEncodingFaults : Prop :=
  ∀ (s : State) (i : Instr), s.params.undocPolicy = .fault → stepKind s.nextInput s.beginStep = .instruction →
    i.wf = true → i.isPrefixRow = false → i.documented = false → BytesAt s s.pc (idBytes i) →
    step s = .fault (.unknownOpcode (idBytes i)
      { s.beginStep with
        pc := s.pc + BitVec.ofNat 16 (if i.length = 1 then 1 else (idBytes i).length)
        r := refresh^[i.m1Cycles] s.r
        latch := latchByte i })

/-- Attach binds free slots or nothing, detach clears them; which error, component and slot is the model's choice
(20_memory.md R202, 20_memory.md R203, 60_exceptions.md R904, log 19, log 23). -/
def Obligations.AttachAndDetachBindSlots : Prop :=
  ∀ (bus : AddressSpace) (c : Component), bus.wf →
    (¬(1 ≤ c.size ∧ c.base + c.size - 1 ≤ 0xFFFF) → bus.attach c = .error (.badComponent c)) ∧
      (1 ≤ c.size → c.base + c.size - 1 ≤ 0xFFFF →
        let first := c.base / 0x1000
        let last := (c.base + c.size - 1) / 0x1000
        ((∃ slot, first ≤ slot ∧ slot ≤ last ∧ bus.boundTo slot ≠ none) →
            ∃ slot, bus.attach c = .error (.duplicateBinding c slot) ∧ first ≤ slot ∧ slot ≤ last ∧
              bus.boundTo slot ≠ none) ∧
          ((∀ slot, first ≤ slot → slot ≤ last → bus.boundTo slot = none) →
            ∃ new, bus.attach c = .ok new ∧ new.wf ∧
              ∀ slot, new.boundTo slot = if first ≤ slot ∧ slot ≤ last then some c else bus.boundTo slot)) ∧
      (c ∉ bus.components → bus.detach c = .error (.notAttached c)) ∧
      (c ∈ bus.components →
        ∃ new, bus.detach c = .ok new ∧ new.wf ∧
          ∀ slot, new.boundTo slot =
            if c.base / 0x1000 ≤ slot ∧ slot ≤ (c.base + c.size - 1) / 0x1000 then none else bus.boundTo slot)

/-- What a bus access does, by the component bound to the slot (R207, R208, R209, R210, R211). -/
def Obligations.RegionsCheckBoundsThenKind : Prop :=
  ∀ (s : State) (a : Word),
    match s.bus.boundTo (a.toNat / 0x1000) with
    | none => s.peek a = .error (.outOfRange a none) ∧ WriteFails s a (.outOfRange a none)
    | some c =>
      if c.base ≤ a.toNat ∧ a.toNat < c.base + c.size then
        match c.kind with
        | .ram => Reads s a (s.mem.get a.toNat) ∧ ∀ v, s.bus.write s.mem a v = .ok (s.mem.set a.toNat v)
        | .rom => (∀ v, c.image[a.toNat - c.base]? = some v → Reads s a v) ∧ WriteFails s a (.readOnly a)
      else
        s.peek a = .error (.outOfRange a (some (c.base, c.size))) ∧
          WriteFails s a (.outOfRange a (some (c.base, c.size)))

/-- A read returns the last byte written, other bytes stay, and equal memories are equal data (20_memory.md R227,
20_memory.md R230). -/
def Obligations.MemoryReadAfterWrite : Prop :=
  (∀ (m : Memory) (a b : Nat) (v : Byte), m.wf = true →
      (m.set a v).wf = true ∧ (m.set a v).get b = if b = a then v else m.get b) ∧
    ∀ m n : Memory, m.wf = true → n.wf = true → (∀ a, m.get a = n.get a) → m = n

/-- Subtraction is addition of the complement with carries inverted (R552). -/
def Obligations.SubtractionIsComplementAddition : Prop :=
  ∀ (a b : Byte) (c : Bool),
    let sum := add8 a (~~~b) (!c)
    sub8 a b c = (sum.1, { sum.2 with c := !sum.2.c, h := !sum.2.h, n := true })

/-- PV of an addition or subtraction is signed overflow (43_alu8.md R550, 43_alu8.md R551, 45_alu16.md R651, 45_alu16.md
R652, 90_conflicts.md C8). -/
def Obligations.OverflowFlagIsSignedOverflow : Prop :=
  (∀ (a b : Byte) (c : Bool),
      ((add8 a b c).2.pv = true ↔ ¬(-128 ≤ a.toInt + b.toInt + c.toNat ∧ a.toInt + b.toInt + c.toNat ≤ 127)) ∧
        ((sub8 a b c).2.pv = true ↔ ¬(-128 ≤ a.toInt - b.toInt - c.toNat ∧ a.toInt - b.toInt - c.toNat ≤ 127))) ∧
    ∀ (a b : Word) (c : Bool),
      ((adc16 a b c).2.pv = true ↔ ¬(-32768 ≤ a.toInt + b.toInt + c.toNat ∧ a.toInt + b.toInt + c.toNat ≤ 32767)) ∧
        ((sbc16 a b c).2.pv = true ↔ ¬(-32768 ≤ a.toInt - b.toInt - c.toNat ∧ a.toInt - b.toInt - c.toNat ≤ 32767))

/-- DAA after an addition or subtraction of BCD numbers gives the BCD result (44_general_control.md R600). -/
def Obligations.DaaGivesTheDecimalResult : Prop :=
  let bcd (n : Nat) : Byte := BitVec.ofNat 8 (n / 10 * 16 + n % 10)
  ∀ (x y : Nat) (c : Bool), x < 100 → y < 100 →
    let sum := add8 (bcd x) (bcd y) c
    let dif := sub8 (bcd x) (bcd y) c
    ((daa sum.1 sum.2).1 = bcd ((x + y + c.toNat) % 100) ∧
        (daa sum.1 sum.2).2.c = decide (100 ≤ x + y + c.toNat)) ∧
      (daa dif.1 dif.2).1 = bcd ((x + 200 - y - c.toNat) % 100) ∧
      (daa dif.1 dif.2).2.c = decide (x < y + c.toNat)

/-- Every instruction completes where its bytes are accessible, and writes no other byte (60_exceptions.md R901,
60_exceptions.md R902, 60_exceptions.md R906, 60_exceptions.md R925, 70_reset_and_hazards.md R970). -/
def Obligations.EveryInstructionCompletes : Prop :=
  ∀ (i : Instr) (s : State), i.wf = true → i.isPrefixRow = false → Accessible i s →
    ∃ t, exec i s = .next t ∧ 0 < t.cycles ∧ ∀ a, a ∉ writes i s → t.peek a = s.peek a

/-- An instruction faults only at one of its memory accesses and keeps every register but SP (60_exceptions.md R906,
60_exceptions.md R907, 60_exceptions.md R908). -/
def Obligations.FaultsComeFromAccesses : Prop :=
  ∀ (i : Instr) (s : State), i.wf = true → i.isPrefixRow = false →
    (∀ e, exec i s ≠ .refused e) ∧
      ∀ e, exec i s = .fault e →
        ∃ err, e = err.toFault e.left ∧
          ((∃ a ∈ reads i s, s.peek a = .error err) ∨ ∃ a ∈ writes i s, WriteFails s a err) ∧
          Frame [.sp, .mem, .events, .ioAnswers, .draws] s e.left ∧
          ∀ a, a ∉ writes i s → e.left.peek a = s.peek a

/-- A step that does not fault returns a positive cycle count of at most 23 T-states (70_reset_and_hazards.md R970,
70_reset_and_hazards.md R971). -/
def Obligations.EveryStepReturnsCycles : Prop :=
  ∀ s t : State, step s = .next t → 4 ≤ t.cycles ∧ t.cycles ≤ 23

/-- 8-bit loads between registers and of immediates (R400, R401, R418, R419). -/
def Obligations.Load8BetweenRegisters : Prop :=
  (∀ (r src : Reg8) (s : State), Effect (.ldRS r src) s [.ofReg r] [] 4 fun t => t.reg r = s.reg src) ∧
    (∀ (r : Reg8) (n : Byte) (s : State), Effect (.ldRN r n) s [.ofReg r] [] 7 fun t => t.reg r = n) ∧
    (∀ (x : XY) (r src : RegX) (s : State),
      Effect (x.pick (.ldRSIxHalf r src) (.ldRSIyHalf r src)) s [.ofRegX x r] [] 8
        fun t => t.regX x r = s.regX x src ∧ (r = .xh → t.half x .low = s.half x .low) ∧
          (r = .xl → t.half x .high = s.half x .high)) ∧
    ∀ (x : XY) (half : Half) (n : Byte) (s : State),
      Effect (x.pick (.ldIxHalfN half n) (.ldIyHalfN half n)) s [.ofXy x] [] 11
        fun t => t.half x half = n ∧ t.half x half.other = s.half x half.other

/-- 8-bit loads from memory (R402, R403, R408, R409, R410). -/
def Obligations.Load8FromMemory : Prop :=
  ∀ s : State,
    (∀ r : Reg8, LoadsFrom (.ldRAtHl r) s s.hl [.ofReg r] 7 fun v t => t.reg r = v) ∧
      (∀ (x : XY) (r : Reg8) (d : Byte),
        LoadsFrom (x.pick (.ldRAtIxd r d) (.ldRAtIyd r d)) s (indexed s x d) [.ofReg r] 19 fun v t => t.reg r = v) ∧
      LoadsFrom .ldAAtBc s s.bc [.a] 7 (fun v t => t.a = v) ∧
      LoadsFrom .ldAAtDe s s.de [.a] 7 (fun v t => t.a = v) ∧
      ∀ nn : Word, LoadsFrom (.ldAAtNn nn) s nn [.a] 13 fun v t => t.a = v

/-- 8-bit stores to memory (R404, R405, R406, R407, R411, R412, R413). -/
def Obligations.Store8ToMemory : Prop :=
  ∀ s : State,
    (∀ src : Reg8, StoresTo (.ldAtHlS src) s s.hl (s.reg src) 7) ∧
      (∀ n : Byte, StoresTo (.ldAtHlN n) s s.hl n 10) ∧
      (∀ (x : XY) (d : Byte) (src : Reg8),
        StoresTo (x.pick (.ldAtIxdS d src) (.ldAtIydS d src)) s (indexed s x d) (s.reg src) 19) ∧
      (∀ (x : XY) (d n : Byte), StoresTo (x.pick (.ldAtIxdN d n) (.ldAtIydN d n)) s (indexed s x d) n 19) ∧
      StoresTo .ldAtBcA s s.bc s.a 7 ∧ StoresTo .ldAtDeA s s.de s.a 7 ∧
      ∀ nn : Word, StoresTo (.ldAtNnA nn) s nn s.a 13

/-- Loads of and from I and R (R414, R415, R416, R417). -/
def Obligations.SpecialRegisterLoads : Prop :=
  ∀ s : State,
    (Effect .ldAI s [.a, .f] [] 9 fun t =>
        t.a = s.i ∧ t.flags = resultFlags s.i { s.flags with h := false, n := false, pv := s.iff2 }) ∧
      (Effect .ldAR s [.a, .f] [] 9 fun t =>
        t.a = s.r ∧ t.flags = resultFlags s.r { s.flags with h := false, n := false, pv := s.iff2 }) ∧
      endOf .ldAI = (.none, true) ∧ endOf .ldAR = (.none, true) ∧
      (Effect .ldIA s [.i] [] 9 fun t => t.i = s.a) ∧
      Effect .ldRA s [.r] [] 9 fun t => t.r = s.a

/-- 16-bit loads of immediates and of SP (R450, R451, R458, R459). -/
def Obligations.Load16OfRegisters : Prop :=
  (∀ (rp : RegPair) (nn : Word) (s : State),
      Effect (.ldRpNn rp nn) s (Field.ofPair rp) [] 10 fun t => t.pairOf rp = nn) ∧
    (∀ (x : XY) (nn : Word) (s : State),
      Effect (x.pick (.ldIxNn nn) (.ldIyNn nn)) s [.ofXy x] [] 14 fun t => t.xy x = nn) ∧
    (∀ s : State, Effect .ldSpHl s [.sp] [] 6 fun t => t.sp = s.hl) ∧
    ∀ (x : XY) (s : State), Effect (x.pick .ldSpIx .ldSpIy) s [.sp] [] 10 fun t => t.sp = s.xy x

/-- 16-bit loads from memory (R452, R453, R454). -/
def Obligations.Load16FromMemory : Prop :=
  ∀ (s : State) (nn : Word),
    LoadsWordFrom (.ldHlAtNn nn) s nn [.h, .l] 16 (fun v t => t.hl = v) ∧
      (∀ rp : RegPair, LoadsWordFrom (.ldRpAtNn rp nn) s nn (Field.ofPair rp) 20 fun v t => t.pairOf rp = v) ∧
      LoadsWordFrom (.ldHlAtNnEd nn) s nn [.h, .l] 20 (fun v t => t.hl = v) ∧
      ∀ x : XY, LoadsWordFrom (x.pick (.ldIxAtNn nn) (.ldIyAtNn nn)) s nn [.ofXy x] 20 fun v t => t.xy x = v

/-- 16-bit stores to memory (R455, R456, R457). -/
def Obligations.Store16ToMemory : Prop :=
  ∀ (s : State) (nn : Word),
    StoresWordTo (.ldAtNnHl nn) s nn s.hl 16 ∧
      (∀ rp : RegPair, StoresWordTo (.ldAtNnRp nn rp) s nn (s.pairOf rp) 20) ∧
      StoresWordTo (.ldAtNnHlEd nn) s nn s.hl 20 ∧
      ∀ x : XY, StoresWordTo (x.pick (.ldAtNnIx nn) (.ldAtNnIy nn)) s nn (s.xy x) 20

/-- PUSH (R460, R461, R470). -/
def Obligations.PushStoresAPair : Prop :=
  ∀ s : State,
    (∀ rp : StackPair, Pushes (.pushRp2 rp) s (s.stackPair rp) [] 11 fun _ => True) ∧
      ∀ x : XY, Pushes (x.pick .pushIx .pushIy) s (s.xy x) [] 15 fun _ => True

/-- POP (R462, R463, R471). -/
def Obligations.PopLoadsAPair : Prop :=
  ∀ s : State,
    (∀ rp : StackPair, Pops (.popRp2 rp) s (Field.ofStackPair rp) 10 fun v t => t.stackPair rp = v) ∧
      ∀ x : XY, Pops (x.pick .popIx .popIy) s [.ofXy x] 14 fun v t => t.xy x = v

/-- EX AF,AF', EX DE,HL and EXX (R500, R501, R502). -/
def Obligations.RegisterExchanges : Prop :=
  ∀ s : State,
    (Effect .exAfAf s [.a, .f, .altA, .altF] [] 4 fun t =>
        t.a = s.altA ∧ t.f = s.altF ∧ t.altA = s.a ∧ t.altF = s.f) ∧
      (Effect .exDeHl s [.d, .e, .h, .l] [] 4 fun t => t.de = s.hl ∧ t.hl = s.de) ∧
      Effect .exx s [.b, .c, .d, .e, .h, .l, .altB, .altC, .altD, .altE, .altH, .altL] [] 4 fun t =>
        (t.b = s.altB ∧ t.c = s.altC ∧ t.d = s.altD ∧ t.e = s.altE ∧ t.h = s.altH ∧ t.l = s.altL) ∧
          t.altB = s.b ∧ t.altC = s.c ∧ t.altD = s.d ∧ t.altE = s.e ∧ t.altH = s.h ∧ t.altL = s.l

/-- EX (SP),HL and EX (SP),XY (R503, R504). -/
def Obligations.ExchangeWithTopOfStack : Prop :=
  ∀ s : State,
    let exchanges (i : Instr) (v : Word) (changed : List Field) (cycles : Nat) (post : Word → State → Prop) : Prop :=
      (∀ lo hi, Reads s s.sp lo → Reads s (s.sp + 1#16) hi → s.writable s.sp = true → s.writable (s.sp + 1#16) = true →
          Effect i s changed [(s.sp + 1#16, hiByte v), (s.sp, loByte v)] cycles (post (pair hi lo))) ∧
        (∀ e, s.peek s.sp = .error e → exec i s = .fault (e.toFault s)) ∧
        (∀ lo e, Reads s s.sp lo → s.peek (s.sp + 1#16) = .error e → exec i s = .fault (e.toFault s)) ∧
        (∀ lo hi e, Reads s s.sp lo → Reads s (s.sp + 1#16) hi → WriteFails s (s.sp + 1#16) e →
          exec i s = .fault (e.toFault s)) ∧
        ∀ lo hi e, Reads s s.sp lo → Reads s (s.sp + 1#16) hi → s.writable (s.sp + 1#16) = true →
          WriteFails s s.sp e →
          ∃ left, exec i s = .fault (e.toFault left) ∧ Frame [.mem] s left ∧
            ∀ x, left.peek x = afterStores s [(s.sp + 1#16, hiByte v)] x
    exchanges .exAtSpHl s.hl [.h, .l] 19 (fun v t => t.hl = v) ∧
      ∀ x : XY, exchanges (x.pick .exAtSpIx .exAtSpIy) (s.xy x) [.ofXy x] 23 fun v t => t.xy x = v

/-- LDI, LDD, LDIR and LDDR (R506, R507, R508, R509). -/
def Obligations.BlockLoad : Prop :=
  ∀ (dir : Dir) (repeats : Bool) (s : State),
    let count := s.bc - 1#16
    let again := repeats && decide (count.toNat ≠ 0)
    let i := blockLoadRow dir repeats
    (∀ v, Reads s s.hl v → s.writable s.de = true →
        Effect i s ([.b, .c, .d, .e, .h, .l, .f] ++ if again then [.pc, .draws] else []) [(s.de, v)]
          (if again then 21 else 16)
          fun t => t.bc = count ∧ t.hl = dir.move s.hl ∧ t.de = dir.move s.de ∧ (again = true → t.pc = s.pc - 2#16) ∧
            ∃ fl, BlockLoadRule v s.a count s.flags fl ∧ repeatFlags again fl t.flags) ∧
      (∀ e, s.peek s.hl = .error e → exec i s = .fault (e.toFault s)) ∧
      ∀ v e, Reads s s.hl v → WriteFails s s.de e → exec i s = .fault (e.toFault s)

/-- CPI, CPD, CPIR and CPDR (R510, R511, R512, R513). -/
def Obligations.BlockCompare : Prop :=
  ∀ (dir : Dir) (repeats : Bool) (s : State),
    let count := s.bc - 1#16
    let i := blockCompareRow dir repeats
    (∀ v, Reads s s.hl v →
        let again := repeats && decide (count.toNat ≠ 0 ∧ s.a ≠ v)
        Effect i s ([.b, .c, .h, .l, .f] ++ if again then [.pc, .draws] else []) [] (if again then 21 else 16)
          fun t => t.bc = count ∧ t.hl = dir.move s.hl ∧ (again = true → t.pc = s.pc - 2#16) ∧
            ∃ fl, BlockCompareRule s.a v count s.flags fl ∧ repeatFlags again fl t.flags) ∧
      ∀ e, s.peek s.hl = .error e → exec i s = .fault (e.toFault s)

/-- ADD, ADC, SUB, SBC, AND, XOR, OR and CP in every operand form (R550, R551, R553, R554, R557, R560, R561, R562, R563,
R564, R565, R567). -/
def Obligations.AccumulatorOperations : Prop :=
  ∀ (op : AluOp) (s : State),
    let result (v : Byte) (t : State) : Prop := AluRule op s.a v s.flags.c t.a t.flags
    (∀ src : Reg8, Effect (aluReg op src) s [.a, .f] [] 4 (result (s.reg src))) ∧
      (∀ n : Byte, Effect (aluImm op n) s [.a, .f] [] 7 (result n)) ∧
      (∀ (x : XY) (half : Half), Effect (aluHalf op x half) s [.a, .f] [] 8 (result (s.half x half))) ∧
      LoadsFrom (aluHl op) s s.hl [.a, .f] 7 result ∧
      ∀ (x : XY) (d : Byte), LoadsFrom (aluXy op x d) s (indexed s x d) [.a, .f] 19 result

/-- 8-bit INC and DEC in every operand form (R555, R556, R570, R571, R572, R573, R574, R575, R576). -/
def Obligations.IncrementAndDecrement8 : Prop :=
  ∀ (up : Bool) (s : State),
    (∀ r : Reg8, Effect (countRegRow up r) s [.ofReg r, .f] [] 4
        fun t => StepRule up (s.reg r) s.flags (t.reg r) t.flags) ∧
      (∀ (x : XY) (half : Half), Effect (countHalfRow up x half) s [.ofXy x, .f] [] 8
        fun t => StepRule up (s.half x half) s.flags (t.half x half) t.flags ∧
          t.half x half.other = s.half x half.other) ∧
      Modifies (countHlRow up) s s.hl [.f] 11 (fun v res t => StepRule up v s.flags res t.flags) ∧
      ∀ (x : XY) (d : Byte), Modifies (countXyRow up x d) s (indexed s x d) [.f] 23
        fun v res t => StepRule up v s.flags res t.flags

/-- DAA, CPL and NEG (R600, R601, R602). -/
def Obligations.AdjustComplementNegate : Prop :=
  ∀ s : State,
    (Effect .daa s [.a, .f] [] 4 fun t => DaaRule s.a s.flags t.a t.flags) ∧
      (Effect .cpl s [.a, .f] [] 4 fun t =>
        t.a.toNat = 255 - s.a.toNat ∧
          t.flags = { s.flags with h := true, n := true, f5 := t.a.getLsbD 5, f3 := t.a.getLsbD 3 }) ∧
      (Effect .neg s [.a, .f] [] 8 fun t => Sub8Rule 0#8 s.a false t.a t.flags) ∧
      ∀ y : Fin 8, Effect (.negMirror y) s [.a, .f] [] 8 fun t => Sub8Rule 0#8 s.a false t.a t.flags

/-- SCF and CCF (R605, R606). -/
def Obligations.SetAndComplementCarry : Prop :=
  ∀ s : State,
    let mixed (t : State) : Prop :=
      (s.a.getLsbD 5 = true → t.flags.f5 = true) ∧
        (s.a.getLsbD 5 = false → s.flags.f5 = false → t.flags.f5 = false) ∧
        (s.a.getLsbD 3 = true → t.flags.f3 = true) ∧
        (s.a.getLsbD 3 = false → s.flags.f3 = false → t.flags.f3 = false)
    (Effect .scf s [.f, .draws] [] 4 fun t => mixed t ∧
        t.flags = { s.flags with c := true, h := false, n := false, f5 := t.flags.f5, f3 := t.flags.f3 }) ∧
      Effect .ccf s [.f, .draws] [] 4 fun t => mixed t ∧
        t.flags = { s.flags with c := !s.flags.c, h := s.flags.c, n := false, f5 := t.flags.f5, f3 := t.flags.f3 }

/-- NOP, HALT, DI, EI, IM and the ED no-operations (R610, R611, R612, R613, R614, R615, R616, R617, R618). -/
def Obligations.CpuControl : Prop :=
  ∀ s : State,
    (Effect .nop s [] [] 4 fun _ => True) ∧
      (Effect .halt s [.halted] [] 4 fun t => t.halted = true) ∧
      (Effect .di s [.iff1, .iff2] [] 4 fun t => t.iff1 = false ∧ t.iff2 = false) ∧
      (Effect .ei s [.iff1, .iff2] [] 4 fun t => t.iff1 = true ∧ t.iff2 = true) ∧ endOf .ei = (.intOnly, false) ∧
      (∀ i ∈ [Instr.im0, .im0Mirror], Effect i s [.im] [] 8 fun t => t.im = .im0) ∧
      (∀ i ∈ [Instr.im1, .im1Mirror], Effect i s [.im] [] 8 fun t => t.im = .im1) ∧
      (∀ i ∈ [Instr.im2, .im2Mirror], Effect i s [.im] [] 8 fun t => t.im = .im2) ∧
      (∀ y : Bool, Effect (.im01 y) s [.im, .draws] [] 8 fun t => t.im = .im0 ∨ t.im = .im1) ∧
      (∀ y : Bool, Effect (.nopEd7 y) s [] [] 8 fun _ => True) ∧
      ∀ op : Byte, Effect (.nopEd op) s [] [] 8 fun _ => True

/-- 16-bit arithmetic (R650, R651, R652, R653, R654, R655, R656, R657, R658, R659, R660). -/
def Obligations.Arithmetic16 : Prop :=
  ∀ s : State,
    (∀ rp : RegPair,
        (Effect (.addHlRp rp) s [.h, .l, .f] [] 11 fun t => Add16Rule s.hl (s.pairOf rp) s.flags t.hl t.flags) ∧
          (Effect (.adcHlRp rp) s [.h, .l, .f] [] 15 fun t => Adc16Rule s.hl (s.pairOf rp) s.flags.c t.hl t.flags) ∧
          (Effect (.sbcHlRp rp) s [.h, .l, .f] [] 15 fun t => Sbc16Rule s.hl (s.pairOf rp) s.flags.c t.hl t.flags) ∧
          (Effect (.incRp rp) s (Field.ofPair rp) [] 6 fun t =>
            (t.pairOf rp).toNat = ((s.pairOf rp).toNat + 1) % 0x10000) ∧
          Effect (.decRp rp) s (Field.ofPair rp) [] 6 fun t =>
            (t.pairOf rp).toNat = ((s.pairOf rp).toNat + 0xFFFF) % 0x10000) ∧
      ∀ x : XY,
        (∀ rp : XPair, Effect (x.pick (.addIxRp rp) (.addIyRp rp)) s [.ofXy x, .f] [] 15
            fun t => Add16Rule (s.xy x) (s.xPair x rp) s.flags (t.xy x) t.flags) ∧
          (Effect (x.pick .incIx .incIy) s [.ofXy x] [] 10 fun t => (t.xy x).toNat = ((s.xy x).toNat + 1) % 0x10000) ∧
          Effect (x.pick .decIx .decIy) s [.ofXy x] [] 10 fun t =>
            (t.xy x).toNat = ((s.xy x).toNat + 0xFFFF) % 0x10000

/-- Rotates and shifts of registers (R700, R701, R702, R703). -/
def Obligations.RotatesOfRegisters : Prop :=
  ∀ (op : RotOp) (s : State),
    (∀ i : Instr, rotARow op = some i → Effect i s [.a, .f] [] 4 fun t => RotARule op s.a s.flags t.a t.flags) ∧
      ∀ r : Reg8, Effect (rotReg op r) s [.ofReg r, .f] [] 8
        fun t => RotRule op (s.reg r) s.flags.c (t.reg r) t.flags

/-- Rotates and shifts of memory, their copy forms, RLD and RRD (R713, R714, R715). -/
def Obligations.RotatesOfMemory : Prop :=
  ∀ s : State,
    (∀ op : RotOp,
        Modifies (rotHl op) s s.hl [.f] 15 (fun v res t => RotRule op v s.flags.c res t.flags) ∧
          ∀ (x : XY) (d : Byte),
            Modifies (rotXy op x d) s (indexed s x d) [.f] 23 (fun v res t => RotRule op v s.flags.c res t.flags) ∧
              ∀ r : Reg8, Modifies (rotCopy op x d r) s (indexed s x d) [.f, .ofReg r] 23
                fun v res t => RotRule op v s.flags.c res t.flags ∧ t.reg r = res) ∧
      Modifies .rld s s.hl [.a, .f] 18 (fun v res t =>
        res.toNat = v.toNat % 16 * 16 + s.a.toNat % 16 ∧ t.a.toNat = s.a.toNat / 16 * 16 + v.toNat / 16 ∧
          ByteFlagsRule t.a s.flags t.flags) ∧
      Modifies .rrd s s.hl [.a, .f] 18 fun v res t =>
        res.toNat = s.a.toNat % 16 * 16 + v.toNat / 16 ∧ t.a.toNat = s.a.toNat / 16 * 16 + v.toNat % 16 ∧
          ByteFlagsRule t.a s.flags t.flags

/-- BIT on a register, (HL) and (XY+d) (R750, R760, R761, R762). -/
def Obligations.BitTests : Prop :=
  ∀ (bit : Fin 8) (s : State),
    (∀ r : Reg8, Effect (.bitBR bit r) s [.f] [] 8 fun t => BitRule bit (s.reg r) (s.reg r) s.flags t.flags) ∧
      LoadsFrom (.bitBAtHl bit) s s.hl [.f, .draws] 12 (fun v t => ∃ xy, BitRule bit v xy s.flags t.flags) ∧
      ∀ (x : XY) (d : Byte),
        LoadsFrom (x.pick (.bitBAtIxd bit d) (.bitBAtIyd bit d)) s (indexed s x d) [.f] 20
            (fun v t => BitRule bit v (hiByte (indexed s x d)) s.flags t.flags) ∧
          ∀ z : Reg8, LoadsFrom (x.pick (.bitBAtIxdMirror bit d z) (.bitBAtIydMirror bit d z)) s (indexed s x d) [.f] 20
            fun v t => BitRule bit v (hiByte (indexed s x d)) s.flags t.flags

/-- RES and SET in every operand form (R770, R771, R772). -/
def Obligations.BitResetAndSet : Prop :=
  ∀ (on : Bool) (bit : Fin 8) (s : State),
    (∀ r : Reg8, Effect (bitChangeReg on bit r) s [.ofReg r] [] 8 fun t => BitChangeRule bit on (s.reg r) (t.reg r)) ∧
      Modifies (bitChangeHl on bit) s s.hl [] 15 (fun v res _ => BitChangeRule bit on v res) ∧
      ∀ (x : XY) (d : Byte),
        Modifies (bitChangeXy on bit x d) s (indexed s x d) [] 23 (fun v res _ => BitChangeRule bit on v res) ∧
          ∀ r : Reg8, Modifies (bitChangeCopy on bit x d r) s (indexed s x d) [.ofReg r] 23
            fun v res t => BitChangeRule bit on v res ∧ t.reg r = res

/-- Jumps (R800, R801, R802, R803, R804, R805, R806). -/
def Obligations.Jumps : Prop :=
  ∀ s : State,
    let target (d : Byte) (t : State) : Prop := (t.pc.toNat : Int) = ((s.pc.toNat : Int) + d.toInt) % 0x10000
    (∀ nn : Word, Effect (.jpNn nn) s [.pc] [] 10 fun t => t.pc = nn) ∧
      (∀ (cc : Cond) (nn : Word),
        (ConditionHolds cc s.flags → Effect (.jpCcNn cc nn) s [.pc] [] 10 fun t => t.pc = nn) ∧
          (¬ConditionHolds cc s.flags → Effect (.jpCcNn cc nn) s [] [] 10 fun _ => True)) ∧
      (∀ d : Byte, Effect (.jrE d) s [.pc] [] 12 (target d)) ∧
      (∀ (cc : RelCond) (d : Byte),
        (ConditionHolds (condOf cc) s.flags → Effect (.jrCcE cc d) s [.pc] [] 12 (target d)) ∧
          (¬ConditionHolds (condOf cc) s.flags → Effect (.jrCcE cc d) s [] [] 7 fun _ => True)) ∧
      (Effect .jpHl s [.pc] [] 4 fun t => t.pc = s.hl) ∧
      (∀ x : XY, Effect (x.pick .jpIx .jpIy) s [.pc] [] 8 fun t => t.pc = s.xy x) ∧
      ∀ d : Byte,
        (s.b ≠ 1#8 → Effect (.djnzE d) s [.b, .pc] [] 13 fun t => t.b.toNat = (s.b.toNat + 255) % 256 ∧ target d t) ∧
          (s.b = 1#8 → Effect (.djnzE d) s [.b] [] 8 fun t => t.b = 0#8)

/-- Calls, restarts and returns (R810, R811, R815, R816, R817, R818, R822). -/
def Obligations.CallsAndReturns : Prop :=
  ∀ s : State,
    (∀ nn : Word, Pushes (.callNn nn) s s.pc [.pc] 17 fun t => t.pc = nn) ∧
      (∀ (cc : Cond) (nn : Word),
        (ConditionHolds cc s.flags → Pushes (.callCcNn cc nn) s s.pc [.pc] 17 fun t => t.pc = nn) ∧
          (¬ConditionHolds cc s.flags → Effect (.callCcNn cc nn) s [] [] 10 fun _ => True)) ∧
      (∀ p : Fin 8, Pushes (.rstP p) s s.pc [.pc] 11 fun t => t.pc.toNat = p.val * 8) ∧
      Pops .ret s [.pc] 10 (fun v t => t.pc = v) ∧
      (∀ cc : Cond,
        (ConditionHolds cc s.flags → Pops (.retCc cc) s [.pc] 11 fun v t => t.pc = v) ∧
          (¬ConditionHolds cc s.flags → Effect (.retCc cc) s [] [] 5 fun _ => True)) ∧
      Pops .reti s [.pc, .iff1] 14 (fun v t => t.pc = v ∧ t.iff1 = s.iff2) ∧
      Pops .retn s [.pc, .iff1] 14 (fun v t => t.pc = v ∧ t.iff1 = s.iff2) ∧
      ∀ y : Fin 8, Pops (.retnMirror y) s [.pc, .iff1] 14 fun v t => t.pc = v ∧ t.iff1 = s.iff2

/-- IN and OUT, the host's answer to a read being the head of the model's queue (49_io.md R850, 49_io.md R851, 49_io.md
R852, 49_io.md R853, 49_io.md R854, 49_io.md R855, 49_io.md R856, 49_io.md R857, log 7, log 8, log 20). -/
def Obligations.InputAndOutput : Prop :=
  ∀ s : State,
    (∀ n : Byte, Effect (.inAAtN n) s [.a, .events, .ioAnswers, .draws] [] 11
        fun t => ReadsPort s t (pair s.a n) ∧ t.a = s.ioValue) ∧
      (∀ r : Reg8, Effect (.inRAtC r) s [.ofReg r, .f, .events, .ioAnswers, .draws] [] 12
        fun t => ReadsPort s t s.bc ∧ t.reg r = s.ioValue ∧ ByteFlagsRule s.ioValue s.flags t.flags) ∧
      (Effect .inFAtC s [.f, .events, .ioAnswers, .draws] [] 12
        fun t => ReadsPort s t s.bc ∧ ByteFlagsRule s.ioValue s.flags t.flags) ∧
      (∀ v rest, s.ioAnswers = v :: rest → s.ioValue = v) ∧
      (∀ n : Byte, Effect (.outAtNA n) s [.events] [] 11
        fun t => t.events = s.events ++ [.output (pair s.a n) s.a]) ∧
      (∀ r : Reg8, Effect (.outAtCR r) s [.events] [] 12
        fun t => t.events = s.events ++ [.output s.bc (s.reg r)]) ∧
      (∀ v : Byte, (s.params.outC0 = some v ∨ s.params.outC0 = none ∧
          v = (if s.params.cpuVariant = .nmos then 0x00#8 else 0xFF#8)) →
        Effect .outAtC0 s [.events] [] 12 fun t => t.events = s.events ++ [.output s.bc v])

/-- INI, IND, INIR, INDR, OUTI, OUTD, OTIR and OTDR, the byte read being the head of the model's queue (49_io.md R858,
49_io.md R859, 49_io.md R860, 49_io.md R861, 49_io.md R862, 49_io.md R863, 49_io.md R864, 49_io.md R865, 49_io.md R866, log
7, log 8). -/
def Obligations.BlockInputAndOutput : Prop :=
  ∀ (dir : Dir) (repeats : Bool) (s : State),
    let count := s.b - 1#8
    let again := repeats && decide (s.b ≠ 1#8)
    let cycles := if again then 21 else 16
    let moved (k : Nat) (byte : Byte) (t : State) : Prop :=
      t.b = count ∧ t.hl = dir.move s.hl ∧ (again = true → t.pc = s.pc - 2#16) ∧
        ∃ fl, BlockIoRule byte count k fl ∧ repeatFlagsIo again fl t.flags
    let input := blockInRow dir repeats
    let output := blockOutRow dir repeats
    (s.writable s.hl = true →
        Effect input s ([.b, .h, .l, .f, .events, .ioAnswers, .draws] ++ if again then [.pc] else [])
          [(s.hl, s.ioValue)] cycles fun t => ReadsPort s t s.bc ∧
            moved (s.ioValue.toNat + (s.c.toNat + match dir with | .up => 1 | .down => 255) % 256) s.ioValue t) ∧
      (∀ e, WriteFails s s.hl e →
        ∃ left, exec input s = .fault (e.toFault left) ∧ Frame [.events, .ioAnswers, .draws] s left ∧
          ReadsPort s left s.bc) ∧
      (∀ v, Reads s s.hl v →
        Effect output s ([.b, .h, .l, .f, .events] ++ if again then [.pc, .draws] else []) [] cycles
          fun t => t.events = s.events ++ [.output (pair count s.c) v] ∧ moved (v.toNat + t.l.toNat) v t) ∧
      ∀ e, s.peek s.hl = .error e → exec output s = .fault (e.toFault s)

/-- An ignored prefix, and a DD or FD before an opcode it does not affect (R323, R324). -/
def Obligations.IndexPrefixesBeforeOtherOpcodes : Prop :=
  (∀ (x : XY) (next : ChainByte) (s : State),
      let i := x.pick (.ignoredDd next) (.ignoredFd next)
      (Effect i s [] [] 4 fun _ => True) ∧ endOf i = (.all, false)) ∧
    ∀ (x : XY) (inner : Instr) (s : State), inner.unaffected = true →
      let i := x.pick (.ddUnprefixed inner) (.fdUnprefixed inner)
      (∀ t, exec inner s = .next t → exec i s = .next { t with cycles := t.cycles + 4 }) ∧
        (∀ e, exec inner s = .fault e → exec i s = .fault e) ∧
        (Accessible inner s → ∃ t, exec inner s = .next t ∧ exec i s = .next { t with cycles := t.cycles + 4 }) ∧
        endOf i = endOf inner

/-- A prefix row does what the instruction it begins does (30_encoding.md R302, 30_encoding.md R312, log 11). -/
def Obligations.PrefixRowsContinueTheFetch : Prop :=
  ∀ (row i : Instr) (s : State) (rest : List Byte), row.isPrefixRow = true → i.wf = true → i.isPrefixRow = false →
    encode i = encode row ++ rest → (s.params.undocPolicy = .execute ∨ i.documented = true) → BytesAt s s.pc rest →
    exec row s = exec i (fetchedAfter row i s) ∧
      (Accessible i (fetchedAfter row i s) → ∃ t, exec row s = .next t)

/-- The fault kinds have the codes of the table, a step raises only the first three and attach the fourth (60_exceptions.md
R900, 60_exceptions.md R904, 60_exceptions.md R905, 20_memory.md R213, log 23). -/
def Obligations.FaultKindsHaveTheirCodes : Prop :=
  (FaultKind.addressOutOfRange.code = 1 ∧ FaultKind.readOnlyViolation.code = 2 ∧ FaultKind.unknownOpcode.code = 3 ∧
      FaultKind.duplicateBinding.code = 4 ∧ FaultKind.unsupportedAddressingMode.code = 5) ∧
    (∀ addr bounds left, (Fault.addressOutOfRange addr bounds left).code = 1) ∧
    (∀ addr left, (Fault.readOnlyViolation addr left).code = 2) ∧
    (∀ bytes left, (Fault.unknownOpcode bytes left).code = 3) ∧
    (∀ (s : State) (e : Fault), step s = .fault e → e.code ∈ [1, 2, 3]) ∧
    ∀ (bus : AddressSpace) (c : Component) (e : BusError), bus.attach c = .error e →
      (∃ slot, e = .duplicateBinding c slot ∧ e.kind.map FaultKind.code = some 4) ∨ e = .badComponent c ∧ e.kind = none

end
end

