-- ==== Sys2Proof/Laws/Memory.lean ====
section
/-! SUPPORT. The laws of memory: a read after a write, and the canonical form, which every operation over memory keeps. -/

namespace Sys2Proof.Machine

namespace Memory

theorem get_without_self (m : Memory) (a : Nat) : (m.without a).get a = unlisted := by
  induction m with
  | nil => rfl
  | cons cell rest ih =>
    obtain ⟨k, w⟩ := cell
    by_cases h : k = a
    · simpa [without, h] using ih
    · simpa [without, h, get, Ne.symm h] using ih

theorem get_without_of_ne (m : Memory) (a b : Nat) (hne : b ≠ a) : (m.without a).get b = m.get b := by
  induction m with
  | nil => rfl
  | cons cell rest ih =>
    obtain ⟨k, w⟩ := cell
    by_cases h : k = a
    · subst h
      simpa [without, get, hne] using ih
    · have : (without ((k, w) :: rest) a).get b = get ((k, w) :: without rest a) b := by simp [without, h]
      simp only [this, get, ih]

theorem get_add_self (m : Memory) (a : Nat) (v : Byte) (h : ∀ cell ∈ m, cell.1 ≠ a) : (m.add a v).get a = v := by
  induction m with
  | nil => simp [add, get]
  | cons cell rest ih =>
    obtain ⟨k, w⟩ := cell
    have hk : a ≠ k := fun hk => h (k, w) (by simp) hk.symm
    have hrest := ih fun cell hc => h cell (by simp [hc])
    by_cases hlt : a < k
    · simp [add, hlt, get]
    · simpa [add, hlt, get, hk] using hrest

theorem get_add_of_ne (m : Memory) (a b : Nat) (v : Byte) (hne : b ≠ a) : (m.add a v).get b = m.get b := by
  induction m with
  | nil => simp [add, get, hne]
  | cons cell rest ih =>
    obtain ⟨k, w⟩ := cell
    by_cases hlt : a < k
    · simp [add, hlt, get, hne]
    · simp [add, hlt, get, ih]

theorem mem_without (m : Memory) (a : Nat) (cell : Host.Cell) : cell ∈ m.without a ↔ cell ∈ m ∧ cell.1 ≠ a := by
  simp [without]

theorem mem_add (m : Memory) (a : Nat) (v : Byte) (cell : Host.Cell) :
    cell ∈ m.add a v ↔ cell = (a, v) ∨ cell ∈ m := by
  induction m with
  | nil => simp [add]
  | cons head rest ih =>
    obtain ⟨k, w⟩ := head
    by_cases hlt : a < k
    · simp [add, hlt]
    · simp only [add, hlt, if_false, List.mem_cons, ih]
      tauto

/-- A read of the address just written gives the byte written. -/
@[simp] theorem get_set_self (m : Memory) (a : Nat) (v : Byte) : (m.set a v).get a = v := by
  unfold set
  split
  · rename_i h
    rw [h, get_without_self]
  · exact get_add_self _ _ _ fun cell hc => ((mem_without m a cell).1 hc).2

/-- A write leaves every other address as it was. -/
theorem get_set_of_ne (m : Memory) (a b : Nat) (v : Byte) (h : b ≠ a) : (m.set a v).get b = m.get b := by
  unfold set
  split
  · exact get_without_of_ne m a b h
  · rw [get_add_of_ne _ _ _ _ h, get_without_of_ne m a b h]

theorem get_set (m : Memory) (a b : Nat) (v : Byte) : (m.set a v).get b = if b = a then v else m.get b := by
  split
  · rename_i h
    rw [h, get_set_self]
  · rename_i h
    exact get_set_of_ne m a b v h

/-- What a write lists: the new entry and old ones. -/
theorem mem_set (m : Memory) (a : Nat) (v : Byte) (cell : Host.Cell) (h : cell ∈ m.set a v) :
    cell = (a, v) ∨ cell ∈ m := by
  unfold set at h
  split at h
  · exact .inr ((mem_without m a cell).1 h).1
  · rcases (mem_add _ a v cell).1 h with rfl | h
    · exact .inl rfl
    · exact .inr ((mem_without m a cell).1 h).1

theorem above_iff (a : Nat) (m : Memory) : above a m = true ↔ ∀ cell ∈ m, a < cell.1 := by simp [above]

theorem wf_cons (k : Nat) (v : Byte) (rest : Memory) :
    wf ((k, v) :: rest) = true ↔ v ≠ unlisted ∧ (∀ cell ∈ rest, k < cell.1) ∧ wf rest = true := by
  simp only [wf, Bool.and_eq_true, bne_iff_ne, ne_eq, above_iff, and_assoc]

theorem wf_without (m : Memory) (a : Nat) (h : m.wf = true) : (m.without a).wf = true := by
  induction m with
  | nil => rfl
  | cons cell rest ih =>
    obtain ⟨k, w⟩ := cell
    obtain ⟨hv, hk, hrest⟩ := (wf_cons k w rest).1 h
    by_cases hka : k = a
    · simpa [without, hka] using ih hrest
    · have : without ((k, w) :: rest) a = (k, w) :: without rest a := by simp [without, hka]
      rw [this, wf_cons]
      exact ⟨hv, fun cell hc => hk cell ((mem_without rest a cell).1 hc).1, ih hrest⟩

theorem wf_add (m : Memory) (a : Nat) (v : Byte) (h : m.wf = true) (hv : v ≠ unlisted) (ha : ∀ cell ∈ m, cell.1 ≠ a) :
    (m.add a v).wf = true := by
  induction m with
  | nil => simp [add, hv, wf, above]
  | cons cell rest ih =>
    obtain ⟨k, w⟩ := cell
    obtain ⟨hw, hk, hrest⟩ := (wf_cons k w rest).1 h
    by_cases hlt : a < k
    · simp only [add, hlt, if_true]
      rw [wf_cons]
      refine ⟨hv, ?_, h⟩
      intro cell hc
      rcases List.mem_cons.1 hc with rfl | hc
      · exact hlt
      · exact lt_trans hlt (hk cell hc)
    · simp only [add, hlt, if_false]
      rw [wf_cons]
      refine ⟨hw, ?_, ih hrest fun cell hc => ha cell (by simp [hc])⟩
      intro cell hc
      have hka : k ≠ a := ha (k, w) (by simp)
      rcases (mem_add rest a v cell).1 hc with rfl | hc
      · show k < a
        omega
      · exact hk cell hc

/-- A write keeps the canonical form. -/
theorem wf_set (m : Memory) (a : Nat) (v : Byte) (h : m.wf = true) : (m.set a v).wf = true := by
  unfold set
  split
  · exact wf_without m a h
  · rename_i hv
    exact wf_add _ a v (wf_without m a h) hv fun cell hc => ((mem_without m a cell).1 hc).2

theorem get_eq_unlisted_of_above (m : Memory) (a : Nat) (h : ∀ cell ∈ m, a < cell.1) : m.get a = unlisted := by
  induction m with
  | nil => rfl
  | cons cell rest ih =>
    obtain ⟨k, w⟩ := cell
    have hk : a ≠ k := Nat.ne_of_lt (h (k, w) (by simp))
    simpa [get, hk] using ih fun cell hc => h cell (by simp [hc])

/-- The memory after reset lists nothing and is in canonical form. -/
theorem wf_reset : State.reset.mem.wf = true := rfl

end Memory

end Sys2Proof.Machine
end

