-- ==== Sys2Proof/Laws/Bus.lean ====
section
/-! SUPPORT. The laws of a bus access: a write to a RAM address succeeds and is read back there and nowhere else; a write anywhere
else fails, whatever the byte. -/

namespace Sys2Proof.Machine

namespace AddressSpace

/-- The component an access is routed to, and what it finds there. -/
theorem isRam_iff (bus : AddressSpace) (a : Word) :
    bus.isRam a = true ↔ ∃ c, bus.boundTo (slotOf a) = some c ∧ c.contains a = true ∧ c.kind = .ram := by
  unfold isRam
  cases h : bus.boundTo (slotOf a) with
  | none => simp
  | some c => simp

/-- A write to RAM stores the byte. -/
theorem write_of_isRam (bus : AddressSpace) (mem : Memory) (a : Word) (v : Byte) (h : bus.isRam a = true) :
    bus.write mem a v = .ok (mem.set a.toNat v) := by
  obtain ⟨c, hc, hin, hk⟩ := (isRam_iff bus a).1 h
  simp [write, hc, Component.write, hin, hk]

/-- A read of RAM gives the byte stored. -/
theorem read_of_isRam (bus : AddressSpace) (mem : Memory) (a : Word) (h : bus.isRam a = true) :
    bus.read mem a = .ok (mem.get a.toNat) := by
  obtain ⟨c, hc, hin, hk⟩ := (isRam_iff bus a).1 h
  simp [read, hc, Component.read, hin, hk]

/-- A write that succeeds is a write to RAM. -/
theorem write_ok (bus : AddressSpace) (mem mem' : Memory) (a : Word) (v : Byte) (h : bus.write mem a v = .ok mem') :
    bus.isRam a = true ∧ mem' = mem.set a.toNat v := by
  have hram : bus.isRam a = true := by
    unfold write at h
    split at h
    · rename_i c hc
      unfold Component.write at h
      split at h
      · rename_i hin
        split at h
        · rename_i hk
          exact (isRam_iff bus a).2 ⟨c, hc, hin, hk⟩
        · cases h
      · cases h
    · cases h
  rw [write_of_isRam bus mem a v hram] at h
  cases h
  exact ⟨hram, rfl⟩

/-- A write outside RAM fails in one way, whatever the byte. -/
theorem write_of_not_isRam (bus : AddressSpace) (mem : Memory) (a : Word) (h : bus.isRam a = false) :
    ∃ e, ∀ v, bus.write mem a v = .error e := by
  unfold isRam at h
  unfold write
  split at h
  · rename_i c hc
    by_cases hin : c.contains a = true
    · cases hk : c.kind with
      | ram => simp [hin, hk] at h
      | rom => exact ⟨.readOnly a, fun v => by simp [Component.write, hin, hk]⟩
    · exact ⟨.outOfRange a (some (c.base, c.size)), fun v => by simp [Component.write, hin]⟩
  · exact ⟨.outOfRange a none, fun _ => rfl⟩

/-- A write that fails is outside RAM. -/
theorem write_error (bus : AddressSpace) (mem : Memory) (a : Word) (v : Byte) (e : AccessError)
    (h : bus.write mem a v = .error e) : bus.isRam a = false := by
  cases hr : bus.isRam a with
  | false => rfl
  | true => rw [write_of_isRam bus mem a v hr] at h; cases h

/-- A read depends on memory only through the byte stored at the address. -/
theorem read_congr (bus : AddressSpace) (m n : Memory) (a : Word) (h : m.get a.toNat = n.get a.toNat) :
    bus.read m a = bus.read n a := by
  unfold read Component.read
  rw [h]

/-- A read outside RAM does not depend on memory. -/
theorem read_of_not_isRam (bus : AddressSpace) (m n : Memory) (a : Word) (h : bus.isRam a = false) :
    bus.read m a = bus.read n a := by
  unfold isRam at h
  unfold read
  split at h
  · rename_i c hc
    simp only [Component.read]
    split
    · rename_i hin
      cases hk : c.kind with
      | ram => simp [hin, hk] at h
      | rom => rfl
    · rfl
  · rfl

/-- What an address reads as after a write to RAM. -/
theorem read_set (bus : AddressSpace) (mem : Memory) (a b : Word) (v : Byte) (h : bus.isRam a = true) :
    bus.read (mem.set a.toNat v) b = if b = a then .ok v else bus.read mem b := by
  split
  · rename_i hb
    rw [hb, read_of_isRam bus _ a h, Memory.get_set_self]
  · rename_i hb
    refine read_congr bus _ _ b (Memory.get_set_of_ne mem _ _ v ?_)
    exact fun hn => hb (BitVec.eq_of_toNat_eq hn)

end AddressSpace

end Sys2Proof.Machine
end

