-- ==== Sys2Proof/Laws/State.lean ====
section
/-! SUPPORT. One lemma per field of State per update, each true by definition, so that no proof unfolds a record update. The updates
that take a register as an argument have the lemmas of the fields that no register of theirs is. -/

namespace Sys2Proof.Machine

/-- The state after one byte of RAM is stored. -/
def State.put (s : State) (a : Word) (v : Byte) : State := { s with mem := s.mem.set a.toNat v }

/-- The state after a push of two bytes to RAM. -/
def State.pushed (s : State) (v : Word) : State :=
  { s with
    sp := s.sp - 2#16
    mem := (s.mem.set (s.sp - 1#16).toNat (hiByte v)).set (s.sp - 2#16).toNat (loByte v) }

namespace State

/-! ## tick -/

@[simp] theorem tick_a (s : State) (n : Nat) : (s.tick n).a = s.a := rfl
@[simp] theorem tick_f (s : State) (n : Nat) : (s.tick n).f = s.f := rfl
@[simp] theorem tick_b (s : State) (n : Nat) : (s.tick n).b = s.b := rfl
@[simp] theorem tick_c (s : State) (n : Nat) : (s.tick n).c = s.c := rfl
@[simp] theorem tick_d (s : State) (n : Nat) : (s.tick n).d = s.d := rfl
@[simp] theorem tick_e (s : State) (n : Nat) : (s.tick n).e = s.e := rfl
@[simp] theorem tick_h (s : State) (n : Nat) : (s.tick n).h = s.h := rfl
@[simp] theorem tick_l (s : State) (n : Nat) : (s.tick n).l = s.l := rfl
@[simp] theorem tick_altA (s : State) (n : Nat) : (s.tick n).altA = s.altA := rfl
@[simp] theorem tick_altF (s : State) (n : Nat) : (s.tick n).altF = s.altF := rfl
@[simp] theorem tick_altB (s : State) (n : Nat) : (s.tick n).altB = s.altB := rfl
@[simp] theorem tick_altC (s : State) (n : Nat) : (s.tick n).altC = s.altC := rfl
@[simp] theorem tick_altD (s : State) (n : Nat) : (s.tick n).altD = s.altD := rfl
@[simp] theorem tick_altE (s : State) (n : Nat) : (s.tick n).altE = s.altE := rfl
@[simp] theorem tick_altH (s : State) (n : Nat) : (s.tick n).altH = s.altH := rfl
@[simp] theorem tick_altL (s : State) (n : Nat) : (s.tick n).altL = s.altL := rfl
@[simp] theorem tick_ix (s : State) (n : Nat) : (s.tick n).ix = s.ix := rfl
@[simp] theorem tick_iy (s : State) (n : Nat) : (s.tick n).iy = s.iy := rfl
@[simp] theorem tick_sp (s : State) (n : Nat) : (s.tick n).sp = s.sp := rfl
@[simp] theorem tick_pc (s : State) (n : Nat) : (s.tick n).pc = s.pc := rfl
@[simp] theorem tick_i (s : State) (n : Nat) : (s.tick n).i = s.i := rfl
@[simp] theorem tick_r (s : State) (n : Nat) : (s.tick n).r = s.r := rfl
@[simp] theorem tick_iff1 (s : State) (n : Nat) : (s.tick n).iff1 = s.iff1 := rfl
@[simp] theorem tick_iff2 (s : State) (n : Nat) : (s.tick n).iff2 = s.iff2 := rfl
@[simp] theorem tick_im (s : State) (n : Nat) : (s.tick n).im = s.im := rfl
@[simp] theorem tick_halted (s : State) (n : Nat) : (s.tick n).halted = s.halted := rfl
@[simp] theorem tick_intBlock (s : State) (n : Nat) : (s.tick n).intBlock = s.intBlock := rfl
@[simp] theorem tick_nmiPending (s : State) (n : Nat) : (s.tick n).nmiPending = s.nmiPending := rfl
@[simp] theorem tick_latch (s : State) (n : Nat) : (s.tick n).latch = s.latch := rfl
@[simp] theorem tick_ldAir (s : State) (n : Nat) : (s.tick n).ldAir = s.ldAir := rfl
@[simp] theorem tick_mem (s : State) (n : Nat) : (s.tick n).mem = s.mem := rfl
@[simp] theorem tick_bus (s : State) (n : Nat) : (s.tick n).bus = s.bus := rfl
@[simp] theorem tick_params (s : State) (n : Nat) : (s.tick n).params = s.params := rfl
@[simp] theorem tick_inputs (s : State) (n : Nat) : (s.tick n).inputs = s.inputs := rfl
@[simp] theorem tick_ioAnswers (s : State) (n : Nat) : (s.tick n).ioAnswers = s.ioAnswers := rfl
@[simp] theorem tick_draws (s : State) (n : Nat) : (s.tick n).draws = s.draws := rfl
@[simp] theorem tick_cycles (s : State) (n : Nat) : (s.tick n).cycles = n := rfl
@[simp] theorem tick_events (s : State) (n : Nat) : (s.tick n).events = s.events := rfl

/-! ## setFlags -/

@[simp] theorem setFlags_a (s : State) (fl : Flags) : (s.setFlags fl).a = s.a := rfl
@[simp] theorem setFlags_f (s : State) (fl : Flags) : (s.setFlags fl).f = fl.toByte := rfl
@[simp] theorem setFlags_b (s : State) (fl : Flags) : (s.setFlags fl).b = s.b := rfl
@[simp] theorem setFlags_c (s : State) (fl : Flags) : (s.setFlags fl).c = s.c := rfl
@[simp] theorem setFlags_d (s : State) (fl : Flags) : (s.setFlags fl).d = s.d := rfl
@[simp] theorem setFlags_e (s : State) (fl : Flags) : (s.setFlags fl).e = s.e := rfl
@[simp] theorem setFlags_h (s : State) (fl : Flags) : (s.setFlags fl).h = s.h := rfl
@[simp] theorem setFlags_l (s : State) (fl : Flags) : (s.setFlags fl).l = s.l := rfl
@[simp] theorem setFlags_altA (s : State) (fl : Flags) : (s.setFlags fl).altA = s.altA := rfl
@[simp] theorem setFlags_altF (s : State) (fl : Flags) : (s.setFlags fl).altF = s.altF := rfl
@[simp] theorem setFlags_altB (s : State) (fl : Flags) : (s.setFlags fl).altB = s.altB := rfl
@[simp] theorem setFlags_altC (s : State) (fl : Flags) : (s.setFlags fl).altC = s.altC := rfl
@[simp] theorem setFlags_altD (s : State) (fl : Flags) : (s.setFlags fl).altD = s.altD := rfl
@[simp] theorem setFlags_altE (s : State) (fl : Flags) : (s.setFlags fl).altE = s.altE := rfl
@[simp] theorem setFlags_altH (s : State) (fl : Flags) : (s.setFlags fl).altH = s.altH := rfl
@[simp] theorem setFlags_altL (s : State) (fl : Flags) : (s.setFlags fl).altL = s.altL := rfl
@[simp] theorem setFlags_ix (s : State) (fl : Flags) : (s.setFlags fl).ix = s.ix := rfl
@[simp] theorem setFlags_iy (s : State) (fl : Flags) : (s.setFlags fl).iy = s.iy := rfl
@[simp] theorem setFlags_sp (s : State) (fl : Flags) : (s.setFlags fl).sp = s.sp := rfl
@[simp] theorem setFlags_pc (s : State) (fl : Flags) : (s.setFlags fl).pc = s.pc := rfl
@[simp] theorem setFlags_i (s : State) (fl : Flags) : (s.setFlags fl).i = s.i := rfl
@[simp] theorem setFlags_r (s : State) (fl : Flags) : (s.setFlags fl).r = s.r := rfl
@[simp] theorem setFlags_iff1 (s : State) (fl : Flags) : (s.setFlags fl).iff1 = s.iff1 := rfl
@[simp] theorem setFlags_iff2 (s : State) (fl : Flags) : (s.setFlags fl).iff2 = s.iff2 := rfl
@[simp] theorem setFlags_im (s : State) (fl : Flags) : (s.setFlags fl).im = s.im := rfl
@[simp] theorem setFlags_halted (s : State) (fl : Flags) : (s.setFlags fl).halted = s.halted := rfl
@[simp] theorem setFlags_intBlock (s : State) (fl : Flags) : (s.setFlags fl).intBlock = s.intBlock := rfl
@[simp] theorem setFlags_nmiPending (s : State) (fl : Flags) : (s.setFlags fl).nmiPending = s.nmiPending := rfl
@[simp] theorem setFlags_latch (s : State) (fl : Flags) : (s.setFlags fl).latch = s.latch := rfl
@[simp] theorem setFlags_ldAir (s : State) (fl : Flags) : (s.setFlags fl).ldAir = s.ldAir := rfl
@[simp] theorem setFlags_mem (s : State) (fl : Flags) : (s.setFlags fl).mem = s.mem := rfl
@[simp] theorem setFlags_bus (s : State) (fl : Flags) : (s.setFlags fl).bus = s.bus := rfl
@[simp] theorem setFlags_params (s : State) (fl : Flags) : (s.setFlags fl).params = s.params := rfl
@[simp] theorem setFlags_inputs (s : State) (fl : Flags) : (s.setFlags fl).inputs = s.inputs := rfl
@[simp] theorem setFlags_ioAnswers (s : State) (fl : Flags) : (s.setFlags fl).ioAnswers = s.ioAnswers := rfl
@[simp] theorem setFlags_draws (s : State) (fl : Flags) : (s.setFlags fl).draws = s.draws := rfl
@[simp] theorem setFlags_cycles (s : State) (fl : Flags) : (s.setFlags fl).cycles = s.cycles := rfl
@[simp] theorem setFlags_events (s : State) (fl : Flags) : (s.setFlags fl).events = s.events := rfl

/-! ## countM1 -/

@[simp] theorem countM1_a (s : State) : (s.countM1).a = s.a := rfl
@[simp] theorem countM1_f (s : State) : (s.countM1).f = s.f := rfl
@[simp] theorem countM1_b (s : State) : (s.countM1).b = s.b := rfl
@[simp] theorem countM1_c (s : State) : (s.countM1).c = s.c := rfl
@[simp] theorem countM1_d (s : State) : (s.countM1).d = s.d := rfl
@[simp] theorem countM1_e (s : State) : (s.countM1).e = s.e := rfl
@[simp] theorem countM1_h (s : State) : (s.countM1).h = s.h := rfl
@[simp] theorem countM1_l (s : State) : (s.countM1).l = s.l := rfl
@[simp] theorem countM1_altA (s : State) : (s.countM1).altA = s.altA := rfl
@[simp] theorem countM1_altF (s : State) : (s.countM1).altF = s.altF := rfl
@[simp] theorem countM1_altB (s : State) : (s.countM1).altB = s.altB := rfl
@[simp] theorem countM1_altC (s : State) : (s.countM1).altC = s.altC := rfl
@[simp] theorem countM1_altD (s : State) : (s.countM1).altD = s.altD := rfl
@[simp] theorem countM1_altE (s : State) : (s.countM1).altE = s.altE := rfl
@[simp] theorem countM1_altH (s : State) : (s.countM1).altH = s.altH := rfl
@[simp] theorem countM1_altL (s : State) : (s.countM1).altL = s.altL := rfl
@[simp] theorem countM1_ix (s : State) : (s.countM1).ix = s.ix := rfl
@[simp] theorem countM1_iy (s : State) : (s.countM1).iy = s.iy := rfl
@[simp] theorem countM1_sp (s : State) : (s.countM1).sp = s.sp := rfl
@[simp] theorem countM1_pc (s : State) : (s.countM1).pc = s.pc := rfl
@[simp] theorem countM1_i (s : State) : (s.countM1).i = s.i := rfl
@[simp] theorem countM1_r (s : State) : (s.countM1).r = refresh s.r := rfl
@[simp] theorem countM1_iff1 (s : State) : (s.countM1).iff1 = s.iff1 := rfl
@[simp] theorem countM1_iff2 (s : State) : (s.countM1).iff2 = s.iff2 := rfl
@[simp] theorem countM1_im (s : State) : (s.countM1).im = s.im := rfl
@[simp] theorem countM1_halted (s : State) : (s.countM1).halted = s.halted := rfl
@[simp] theorem countM1_intBlock (s : State) : (s.countM1).intBlock = s.intBlock := rfl
@[simp] theorem countM1_nmiPending (s : State) : (s.countM1).nmiPending = s.nmiPending := rfl
@[simp] theorem countM1_latch (s : State) : (s.countM1).latch = s.latch := rfl
@[simp] theorem countM1_ldAir (s : State) : (s.countM1).ldAir = s.ldAir := rfl
@[simp] theorem countM1_mem (s : State) : (s.countM1).mem = s.mem := rfl
@[simp] theorem countM1_bus (s : State) : (s.countM1).bus = s.bus := rfl
@[simp] theorem countM1_params (s : State) : (s.countM1).params = s.params := rfl
@[simp] theorem countM1_inputs (s : State) : (s.countM1).inputs = s.inputs := rfl
@[simp] theorem countM1_ioAnswers (s : State) : (s.countM1).ioAnswers = s.ioAnswers := rfl
@[simp] theorem countM1_draws (s : State) : (s.countM1).draws = s.draws := rfl
@[simp] theorem countM1_cycles (s : State) : (s.countM1).cycles = s.cycles := rfl
@[simp] theorem countM1_events (s : State) : (s.countM1).events = s.events := rfl

/-! ## beginStep -/

@[simp] theorem beginStep_a (s : State) : (s.beginStep).a = s.a := rfl
@[simp] theorem beginStep_f (s : State) : (s.beginStep).f = s.f := rfl
@[simp] theorem beginStep_b (s : State) : (s.beginStep).b = s.b := rfl
@[simp] theorem beginStep_c (s : State) : (s.beginStep).c = s.c := rfl
@[simp] theorem beginStep_d (s : State) : (s.beginStep).d = s.d := rfl
@[simp] theorem beginStep_e (s : State) : (s.beginStep).e = s.e := rfl
@[simp] theorem beginStep_h (s : State) : (s.beginStep).h = s.h := rfl
@[simp] theorem beginStep_l (s : State) : (s.beginStep).l = s.l := rfl
@[simp] theorem beginStep_altA (s : State) : (s.beginStep).altA = s.altA := rfl
@[simp] theorem beginStep_altF (s : State) : (s.beginStep).altF = s.altF := rfl
@[simp] theorem beginStep_altB (s : State) : (s.beginStep).altB = s.altB := rfl
@[simp] theorem beginStep_altC (s : State) : (s.beginStep).altC = s.altC := rfl
@[simp] theorem beginStep_altD (s : State) : (s.beginStep).altD = s.altD := rfl
@[simp] theorem beginStep_altE (s : State) : (s.beginStep).altE = s.altE := rfl
@[simp] theorem beginStep_altH (s : State) : (s.beginStep).altH = s.altH := rfl
@[simp] theorem beginStep_altL (s : State) : (s.beginStep).altL = s.altL := rfl
@[simp] theorem beginStep_ix (s : State) : (s.beginStep).ix = s.ix := rfl
@[simp] theorem beginStep_iy (s : State) : (s.beginStep).iy = s.iy := rfl
@[simp] theorem beginStep_sp (s : State) : (s.beginStep).sp = s.sp := rfl
@[simp] theorem beginStep_pc (s : State) : (s.beginStep).pc = s.pc := rfl
@[simp] theorem beginStep_i (s : State) : (s.beginStep).i = s.i := rfl
@[simp] theorem beginStep_r (s : State) : (s.beginStep).r = s.r := rfl
@[simp] theorem beginStep_iff1 (s : State) : (s.beginStep).iff1 = s.iff1 := rfl
@[simp] theorem beginStep_iff2 (s : State) : (s.beginStep).iff2 = s.iff2 := rfl
@[simp] theorem beginStep_im (s : State) : (s.beginStep).im = s.im := rfl
@[simp] theorem beginStep_halted (s : State) : (s.beginStep).halted = s.halted := rfl
@[simp] theorem beginStep_intBlock (s : State) : (s.beginStep).intBlock = s.intBlock := rfl
@[simp] theorem beginStep_nmiPending (s : State) : (s.beginStep).nmiPending = (s.nmiPending || s.nextInput.nmiEdge) := rfl
@[simp] theorem beginStep_latch (s : State) : (s.beginStep).latch = s.latch := rfl
@[simp] theorem beginStep_ldAir (s : State) : (s.beginStep).ldAir = s.ldAir := rfl
@[simp] theorem beginStep_mem (s : State) : (s.beginStep).mem = s.mem := rfl
@[simp] theorem beginStep_bus (s : State) : (s.beginStep).bus = s.bus := rfl
@[simp] theorem beginStep_params (s : State) : (s.beginStep).params = s.params := rfl
@[simp] theorem beginStep_inputs (s : State) : (s.beginStep).inputs = s.inputs.tail := rfl
@[simp] theorem beginStep_ioAnswers (s : State) : (s.beginStep).ioAnswers = s.ioAnswers := rfl
@[simp] theorem beginStep_draws (s : State) : (s.beginStep).draws = s.draws := rfl
@[simp] theorem beginStep_cycles (s : State) : (s.beginStep).cycles = 0 := rfl
@[simp] theorem beginStep_events (s : State) : (s.beginStep).events = [] := rfl

/-! ## setBc -/

@[simp] theorem setBc_a (s : State) (v : Word) : (s.setBc v).a = s.a := rfl
@[simp] theorem setBc_f (s : State) (v : Word) : (s.setBc v).f = s.f := rfl
@[simp] theorem setBc_b (s : State) (v : Word) : (s.setBc v).b = hiByte v := rfl
@[simp] theorem setBc_c (s : State) (v : Word) : (s.setBc v).c = loByte v := rfl
@[simp] theorem setBc_d (s : State) (v : Word) : (s.setBc v).d = s.d := rfl
@[simp] theorem setBc_e (s : State) (v : Word) : (s.setBc v).e = s.e := rfl
@[simp] theorem setBc_h (s : State) (v : Word) : (s.setBc v).h = s.h := rfl
@[simp] theorem setBc_l (s : State) (v : Word) : (s.setBc v).l = s.l := rfl
@[simp] theorem setBc_altA (s : State) (v : Word) : (s.setBc v).altA = s.altA := rfl
@[simp] theorem setBc_altF (s : State) (v : Word) : (s.setBc v).altF = s.altF := rfl
@[simp] theorem setBc_altB (s : State) (v : Word) : (s.setBc v).altB = s.altB := rfl
@[simp] theorem setBc_altC (s : State) (v : Word) : (s.setBc v).altC = s.altC := rfl
@[simp] theorem setBc_altD (s : State) (v : Word) : (s.setBc v).altD = s.altD := rfl
@[simp] theorem setBc_altE (s : State) (v : Word) : (s.setBc v).altE = s.altE := rfl
@[simp] theorem setBc_altH (s : State) (v : Word) : (s.setBc v).altH = s.altH := rfl
@[simp] theorem setBc_altL (s : State) (v : Word) : (s.setBc v).altL = s.altL := rfl
@[simp] theorem setBc_ix (s : State) (v : Word) : (s.setBc v).ix = s.ix := rfl
@[simp] theorem setBc_iy (s : State) (v : Word) : (s.setBc v).iy = s.iy := rfl
@[simp] theorem setBc_sp (s : State) (v : Word) : (s.setBc v).sp = s.sp := rfl
@[simp] theorem setBc_pc (s : State) (v : Word) : (s.setBc v).pc = s.pc := rfl
@[simp] theorem setBc_i (s : State) (v : Word) : (s.setBc v).i = s.i := rfl
@[simp] theorem setBc_r (s : State) (v : Word) : (s.setBc v).r = s.r := rfl
@[simp] theorem setBc_iff1 (s : State) (v : Word) : (s.setBc v).iff1 = s.iff1 := rfl
@[simp] theorem setBc_iff2 (s : State) (v : Word) : (s.setBc v).iff2 = s.iff2 := rfl
@[simp] theorem setBc_im (s : State) (v : Word) : (s.setBc v).im = s.im := rfl
@[simp] theorem setBc_halted (s : State) (v : Word) : (s.setBc v).halted = s.halted := rfl
@[simp] theorem setBc_intBlock (s : State) (v : Word) : (s.setBc v).intBlock = s.intBlock := rfl
@[simp] theorem setBc_nmiPending (s : State) (v : Word) : (s.setBc v).nmiPending = s.nmiPending := rfl
@[simp] theorem setBc_latch (s : State) (v : Word) : (s.setBc v).latch = s.latch := rfl
@[simp] theorem setBc_ldAir (s : State) (v : Word) : (s.setBc v).ldAir = s.ldAir := rfl
@[simp] theorem setBc_mem (s : State) (v : Word) : (s.setBc v).mem = s.mem := rfl
@[simp] theorem setBc_bus (s : State) (v : Word) : (s.setBc v).bus = s.bus := rfl
@[simp] theorem setBc_params (s : State) (v : Word) : (s.setBc v).params = s.params := rfl
@[simp] theorem setBc_inputs (s : State) (v : Word) : (s.setBc v).inputs = s.inputs := rfl
@[simp] theorem setBc_ioAnswers (s : State) (v : Word) : (s.setBc v).ioAnswers = s.ioAnswers := rfl
@[simp] theorem setBc_draws (s : State) (v : Word) : (s.setBc v).draws = s.draws := rfl
@[simp] theorem setBc_cycles (s : State) (v : Word) : (s.setBc v).cycles = s.cycles := rfl
@[simp] theorem setBc_events (s : State) (v : Word) : (s.setBc v).events = s.events := rfl

/-! ## setDe -/

@[simp] theorem setDe_a (s : State) (v : Word) : (s.setDe v).a = s.a := rfl
@[simp] theorem setDe_f (s : State) (v : Word) : (s.setDe v).f = s.f := rfl
@[simp] theorem setDe_b (s : State) (v : Word) : (s.setDe v).b = s.b := rfl
@[simp] theorem setDe_c (s : State) (v : Word) : (s.setDe v).c = s.c := rfl
@[simp] theorem setDe_d (s : State) (v : Word) : (s.setDe v).d = hiByte v := rfl
@[simp] theorem setDe_e (s : State) (v : Word) : (s.setDe v).e = loByte v := rfl
@[simp] theorem setDe_h (s : State) (v : Word) : (s.setDe v).h = s.h := rfl
@[simp] theorem setDe_l (s : State) (v : Word) : (s.setDe v).l = s.l := rfl
@[simp] theorem setDe_altA (s : State) (v : Word) : (s.setDe v).altA = s.altA := rfl
@[simp] theorem setDe_altF (s : State) (v : Word) : (s.setDe v).altF = s.altF := rfl
@[simp] theorem setDe_altB (s : State) (v : Word) : (s.setDe v).altB = s.altB := rfl
@[simp] theorem setDe_altC (s : State) (v : Word) : (s.setDe v).altC = s.altC := rfl
@[simp] theorem setDe_altD (s : State) (v : Word) : (s.setDe v).altD = s.altD := rfl
@[simp] theorem setDe_altE (s : State) (v : Word) : (s.setDe v).altE = s.altE := rfl
@[simp] theorem setDe_altH (s : State) (v : Word) : (s.setDe v).altH = s.altH := rfl
@[simp] theorem setDe_altL (s : State) (v : Word) : (s.setDe v).altL = s.altL := rfl
@[simp] theorem setDe_ix (s : State) (v : Word) : (s.setDe v).ix = s.ix := rfl
@[simp] theorem setDe_iy (s : State) (v : Word) : (s.setDe v).iy = s.iy := rfl
@[simp] theorem setDe_sp (s : State) (v : Word) : (s.setDe v).sp = s.sp := rfl
@[simp] theorem setDe_pc (s : State) (v : Word) : (s.setDe v).pc = s.pc := rfl
@[simp] theorem setDe_i (s : State) (v : Word) : (s.setDe v).i = s.i := rfl
@[simp] theorem setDe_r (s : State) (v : Word) : (s.setDe v).r = s.r := rfl
@[simp] theorem setDe_iff1 (s : State) (v : Word) : (s.setDe v).iff1 = s.iff1 := rfl
@[simp] theorem setDe_iff2 (s : State) (v : Word) : (s.setDe v).iff2 = s.iff2 := rfl
@[simp] theorem setDe_im (s : State) (v : Word) : (s.setDe v).im = s.im := rfl
@[simp] theorem setDe_halted (s : State) (v : Word) : (s.setDe v).halted = s.halted := rfl
@[simp] theorem setDe_intBlock (s : State) (v : Word) : (s.setDe v).intBlock = s.intBlock := rfl
@[simp] theorem setDe_nmiPending (s : State) (v : Word) : (s.setDe v).nmiPending = s.nmiPending := rfl
@[simp] theorem setDe_latch (s : State) (v : Word) : (s.setDe v).latch = s.latch := rfl
@[simp] theorem setDe_ldAir (s : State) (v : Word) : (s.setDe v).ldAir = s.ldAir := rfl
@[simp] theorem setDe_mem (s : State) (v : Word) : (s.setDe v).mem = s.mem := rfl
@[simp] theorem setDe_bus (s : State) (v : Word) : (s.setDe v).bus = s.bus := rfl
@[simp] theorem setDe_params (s : State) (v : Word) : (s.setDe v).params = s.params := rfl
@[simp] theorem setDe_inputs (s : State) (v : Word) : (s.setDe v).inputs = s.inputs := rfl
@[simp] theorem setDe_ioAnswers (s : State) (v : Word) : (s.setDe v).ioAnswers = s.ioAnswers := rfl
@[simp] theorem setDe_draws (s : State) (v : Word) : (s.setDe v).draws = s.draws := rfl
@[simp] theorem setDe_cycles (s : State) (v : Word) : (s.setDe v).cycles = s.cycles := rfl
@[simp] theorem setDe_events (s : State) (v : Word) : (s.setDe v).events = s.events := rfl

/-! ## setHl -/

@[simp] theorem setHl_a (s : State) (v : Word) : (s.setHl v).a = s.a := rfl
@[simp] theorem setHl_f (s : State) (v : Word) : (s.setHl v).f = s.f := rfl
@[simp] theorem setHl_b (s : State) (v : Word) : (s.setHl v).b = s.b := rfl
@[simp] theorem setHl_c (s : State) (v : Word) : (s.setHl v).c = s.c := rfl
@[simp] theorem setHl_d (s : State) (v : Word) : (s.setHl v).d = s.d := rfl
@[simp] theorem setHl_e (s : State) (v : Word) : (s.setHl v).e = s.e := rfl
@[simp] theorem setHl_h (s : State) (v : Word) : (s.setHl v).h = hiByte v := rfl
@[simp] theorem setHl_l (s : State) (v : Word) : (s.setHl v).l = loByte v := rfl
@[simp] theorem setHl_altA (s : State) (v : Word) : (s.setHl v).altA = s.altA := rfl
@[simp] theorem setHl_altF (s : State) (v : Word) : (s.setHl v).altF = s.altF := rfl
@[simp] theorem setHl_altB (s : State) (v : Word) : (s.setHl v).altB = s.altB := rfl
@[simp] theorem setHl_altC (s : State) (v : Word) : (s.setHl v).altC = s.altC := rfl
@[simp] theorem setHl_altD (s : State) (v : Word) : (s.setHl v).altD = s.altD := rfl
@[simp] theorem setHl_altE (s : State) (v : Word) : (s.setHl v).altE = s.altE := rfl
@[simp] theorem setHl_altH (s : State) (v : Word) : (s.setHl v).altH = s.altH := rfl
@[simp] theorem setHl_altL (s : State) (v : Word) : (s.setHl v).altL = s.altL := rfl
@[simp] theorem setHl_ix (s : State) (v : Word) : (s.setHl v).ix = s.ix := rfl
@[simp] theorem setHl_iy (s : State) (v : Word) : (s.setHl v).iy = s.iy := rfl
@[simp] theorem setHl_sp (s : State) (v : Word) : (s.setHl v).sp = s.sp := rfl
@[simp] theorem setHl_pc (s : State) (v : Word) : (s.setHl v).pc = s.pc := rfl
@[simp] theorem setHl_i (s : State) (v : Word) : (s.setHl v).i = s.i := rfl
@[simp] theorem setHl_r (s : State) (v : Word) : (s.setHl v).r = s.r := rfl
@[simp] theorem setHl_iff1 (s : State) (v : Word) : (s.setHl v).iff1 = s.iff1 := rfl
@[simp] theorem setHl_iff2 (s : State) (v : Word) : (s.setHl v).iff2 = s.iff2 := rfl
@[simp] theorem setHl_im (s : State) (v : Word) : (s.setHl v).im = s.im := rfl
@[simp] theorem setHl_halted (s : State) (v : Word) : (s.setHl v).halted = s.halted := rfl
@[simp] theorem setHl_intBlock (s : State) (v : Word) : (s.setHl v).intBlock = s.intBlock := rfl
@[simp] theorem setHl_nmiPending (s : State) (v : Word) : (s.setHl v).nmiPending = s.nmiPending := rfl
@[simp] theorem setHl_latch (s : State) (v : Word) : (s.setHl v).latch = s.latch := rfl
@[simp] theorem setHl_ldAir (s : State) (v : Word) : (s.setHl v).ldAir = s.ldAir := rfl
@[simp] theorem setHl_mem (s : State) (v : Word) : (s.setHl v).mem = s.mem := rfl
@[simp] theorem setHl_bus (s : State) (v : Word) : (s.setHl v).bus = s.bus := rfl
@[simp] theorem setHl_params (s : State) (v : Word) : (s.setHl v).params = s.params := rfl
@[simp] theorem setHl_inputs (s : State) (v : Word) : (s.setHl v).inputs = s.inputs := rfl
@[simp] theorem setHl_ioAnswers (s : State) (v : Word) : (s.setHl v).ioAnswers = s.ioAnswers := rfl
@[simp] theorem setHl_draws (s : State) (v : Word) : (s.setHl v).draws = s.draws := rfl
@[simp] theorem setHl_cycles (s : State) (v : Word) : (s.setHl v).cycles = s.cycles := rfl
@[simp] theorem setHl_events (s : State) (v : Word) : (s.setHl v).events = s.events := rfl

/-! ## setAf -/

@[simp] theorem setAf_a (s : State) (v : Word) : (s.setAf v).a = hiByte v := rfl
@[simp] theorem setAf_f (s : State) (v : Word) : (s.setAf v).f = loByte v := rfl
@[simp] theorem setAf_b (s : State) (v : Word) : (s.setAf v).b = s.b := rfl
@[simp] theorem setAf_c (s : State) (v : Word) : (s.setAf v).c = s.c := rfl
@[simp] theorem setAf_d (s : State) (v : Word) : (s.setAf v).d = s.d := rfl
@[simp] theorem setAf_e (s : State) (v : Word) : (s.setAf v).e = s.e := rfl
@[simp] theorem setAf_h (s : State) (v : Word) : (s.setAf v).h = s.h := rfl
@[simp] theorem setAf_l (s : State) (v : Word) : (s.setAf v).l = s.l := rfl
@[simp] theorem setAf_altA (s : State) (v : Word) : (s.setAf v).altA = s.altA := rfl
@[simp] theorem setAf_altF (s : State) (v : Word) : (s.setAf v).altF = s.altF := rfl
@[simp] theorem setAf_altB (s : State) (v : Word) : (s.setAf v).altB = s.altB := rfl
@[simp] theorem setAf_altC (s : State) (v : Word) : (s.setAf v).altC = s.altC := rfl
@[simp] theorem setAf_altD (s : State) (v : Word) : (s.setAf v).altD = s.altD := rfl
@[simp] theorem setAf_altE (s : State) (v : Word) : (s.setAf v).altE = s.altE := rfl
@[simp] theorem setAf_altH (s : State) (v : Word) : (s.setAf v).altH = s.altH := rfl
@[simp] theorem setAf_altL (s : State) (v : Word) : (s.setAf v).altL = s.altL := rfl
@[simp] theorem setAf_ix (s : State) (v : Word) : (s.setAf v).ix = s.ix := rfl
@[simp] theorem setAf_iy (s : State) (v : Word) : (s.setAf v).iy = s.iy := rfl
@[simp] theorem setAf_sp (s : State) (v : Word) : (s.setAf v).sp = s.sp := rfl
@[simp] theorem setAf_pc (s : State) (v : Word) : (s.setAf v).pc = s.pc := rfl
@[simp] theorem setAf_i (s : State) (v : Word) : (s.setAf v).i = s.i := rfl
@[simp] theorem setAf_r (s : State) (v : Word) : (s.setAf v).r = s.r := rfl
@[simp] theorem setAf_iff1 (s : State) (v : Word) : (s.setAf v).iff1 = s.iff1 := rfl
@[simp] theorem setAf_iff2 (s : State) (v : Word) : (s.setAf v).iff2 = s.iff2 := rfl
@[simp] theorem setAf_im (s : State) (v : Word) : (s.setAf v).im = s.im := rfl
@[simp] theorem setAf_halted (s : State) (v : Word) : (s.setAf v).halted = s.halted := rfl
@[simp] theorem setAf_intBlock (s : State) (v : Word) : (s.setAf v).intBlock = s.intBlock := rfl
@[simp] theorem setAf_nmiPending (s : State) (v : Word) : (s.setAf v).nmiPending = s.nmiPending := rfl
@[simp] theorem setAf_latch (s : State) (v : Word) : (s.setAf v).latch = s.latch := rfl
@[simp] theorem setAf_ldAir (s : State) (v : Word) : (s.setAf v).ldAir = s.ldAir := rfl
@[simp] theorem setAf_mem (s : State) (v : Word) : (s.setAf v).mem = s.mem := rfl
@[simp] theorem setAf_bus (s : State) (v : Word) : (s.setAf v).bus = s.bus := rfl
@[simp] theorem setAf_params (s : State) (v : Word) : (s.setAf v).params = s.params := rfl
@[simp] theorem setAf_inputs (s : State) (v : Word) : (s.setAf v).inputs = s.inputs := rfl
@[simp] theorem setAf_ioAnswers (s : State) (v : Word) : (s.setAf v).ioAnswers = s.ioAnswers := rfl
@[simp] theorem setAf_draws (s : State) (v : Word) : (s.setAf v).draws = s.draws := rfl
@[simp] theorem setAf_cycles (s : State) (v : Word) : (s.setAf v).cycles = s.cycles := rfl
@[simp] theorem setAf_events (s : State) (v : Word) : (s.setAf v).events = s.events := rfl

/-! ## put -/

@[simp] theorem put_a (s : State) (x : Word) (v : Byte) : (s.put x v).a = s.a := rfl
@[simp] theorem put_f (s : State) (x : Word) (v : Byte) : (s.put x v).f = s.f := rfl
@[simp] theorem put_b (s : State) (x : Word) (v : Byte) : (s.put x v).b = s.b := rfl
@[simp] theorem put_c (s : State) (x : Word) (v : Byte) : (s.put x v).c = s.c := rfl
@[simp] theorem put_d (s : State) (x : Word) (v : Byte) : (s.put x v).d = s.d := rfl
@[simp] theorem put_e (s : State) (x : Word) (v : Byte) : (s.put x v).e = s.e := rfl
@[simp] theorem put_h (s : State) (x : Word) (v : Byte) : (s.put x v).h = s.h := rfl
@[simp] theorem put_l (s : State) (x : Word) (v : Byte) : (s.put x v).l = s.l := rfl
@[simp] theorem put_altA (s : State) (x : Word) (v : Byte) : (s.put x v).altA = s.altA := rfl
@[simp] theorem put_altF (s : State) (x : Word) (v : Byte) : (s.put x v).altF = s.altF := rfl
@[simp] theorem put_altB (s : State) (x : Word) (v : Byte) : (s.put x v).altB = s.altB := rfl
@[simp] theorem put_altC (s : State) (x : Word) (v : Byte) : (s.put x v).altC = s.altC := rfl
@[simp] theorem put_altD (s : State) (x : Word) (v : Byte) : (s.put x v).altD = s.altD := rfl
@[simp] theorem put_altE (s : State) (x : Word) (v : Byte) : (s.put x v).altE = s.altE := rfl
@[simp] theorem put_altH (s : State) (x : Word) (v : Byte) : (s.put x v).altH = s.altH := rfl
@[simp] theorem put_altL (s : State) (x : Word) (v : Byte) : (s.put x v).altL = s.altL := rfl
@[simp] theorem put_ix (s : State) (x : Word) (v : Byte) : (s.put x v).ix = s.ix := rfl
@[simp] theorem put_iy (s : State) (x : Word) (v : Byte) : (s.put x v).iy = s.iy := rfl
@[simp] theorem put_sp (s : State) (x : Word) (v : Byte) : (s.put x v).sp = s.sp := rfl
@[simp] theorem put_pc (s : State) (x : Word) (v : Byte) : (s.put x v).pc = s.pc := rfl
@[simp] theorem put_i (s : State) (x : Word) (v : Byte) : (s.put x v).i = s.i := rfl
@[simp] theorem put_r (s : State) (x : Word) (v : Byte) : (s.put x v).r = s.r := rfl
@[simp] theorem put_iff1 (s : State) (x : Word) (v : Byte) : (s.put x v).iff1 = s.iff1 := rfl
@[simp] theorem put_iff2 (s : State) (x : Word) (v : Byte) : (s.put x v).iff2 = s.iff2 := rfl
@[simp] theorem put_im (s : State) (x : Word) (v : Byte) : (s.put x v).im = s.im := rfl
@[simp] theorem put_halted (s : State) (x : Word) (v : Byte) : (s.put x v).halted = s.halted := rfl
@[simp] theorem put_intBlock (s : State) (x : Word) (v : Byte) : (s.put x v).intBlock = s.intBlock := rfl
@[simp] theorem put_nmiPending (s : State) (x : Word) (v : Byte) : (s.put x v).nmiPending = s.nmiPending := rfl
@[simp] theorem put_latch (s : State) (x : Word) (v : Byte) : (s.put x v).latch = s.latch := rfl
@[simp] theorem put_ldAir (s : State) (x : Word) (v : Byte) : (s.put x v).ldAir = s.ldAir := rfl
@[simp] theorem put_mem (s : State) (x : Word) (v : Byte) : (s.put x v).mem = s.mem.set x.toNat v := rfl
@[simp] theorem put_bus (s : State) (x : Word) (v : Byte) : (s.put x v).bus = s.bus := rfl
@[simp] theorem put_params (s : State) (x : Word) (v : Byte) : (s.put x v).params = s.params := rfl
@[simp] theorem put_inputs (s : State) (x : Word) (v : Byte) : (s.put x v).inputs = s.inputs := rfl
@[simp] theorem put_ioAnswers (s : State) (x : Word) (v : Byte) : (s.put x v).ioAnswers = s.ioAnswers := rfl
@[simp] theorem put_draws (s : State) (x : Word) (v : Byte) : (s.put x v).draws = s.draws := rfl
@[simp] theorem put_cycles (s : State) (x : Word) (v : Byte) : (s.put x v).cycles = s.cycles := rfl
@[simp] theorem put_events (s : State) (x : Word) (v : Byte) : (s.put x v).events = s.events := rfl

/-! ## pushed -/

@[simp] theorem pushed_a (s : State) (v : Word) : (s.pushed v).a = s.a := rfl
@[simp] theorem pushed_f (s : State) (v : Word) : (s.pushed v).f = s.f := rfl
@[simp] theorem pushed_b (s : State) (v : Word) : (s.pushed v).b = s.b := rfl
@[simp] theorem pushed_c (s : State) (v : Word) : (s.pushed v).c = s.c := rfl
@[simp] theorem pushed_d (s : State) (v : Word) : (s.pushed v).d = s.d := rfl
@[simp] theorem pushed_e (s : State) (v : Word) : (s.pushed v).e = s.e := rfl
@[simp] theorem pushed_h (s : State) (v : Word) : (s.pushed v).h = s.h := rfl
@[simp] theorem pushed_l (s : State) (v : Word) : (s.pushed v).l = s.l := rfl
@[simp] theorem pushed_altA (s : State) (v : Word) : (s.pushed v).altA = s.altA := rfl
@[simp] theorem pushed_altF (s : State) (v : Word) : (s.pushed v).altF = s.altF := rfl
@[simp] theorem pushed_altB (s : State) (v : Word) : (s.pushed v).altB = s.altB := rfl
@[simp] theorem pushed_altC (s : State) (v : Word) : (s.pushed v).altC = s.altC := rfl
@[simp] theorem pushed_altD (s : State) (v : Word) : (s.pushed v).altD = s.altD := rfl
@[simp] theorem pushed_altE (s : State) (v : Word) : (s.pushed v).altE = s.altE := rfl
@[simp] theorem pushed_altH (s : State) (v : Word) : (s.pushed v).altH = s.altH := rfl
@[simp] theorem pushed_altL (s : State) (v : Word) : (s.pushed v).altL = s.altL := rfl
@[simp] theorem pushed_ix (s : State) (v : Word) : (s.pushed v).ix = s.ix := rfl
@[simp] theorem pushed_iy (s : State) (v : Word) : (s.pushed v).iy = s.iy := rfl
@[simp] theorem pushed_sp (s : State) (v : Word) : (s.pushed v).sp = s.sp - 2#16 := rfl
@[simp] theorem pushed_pc (s : State) (v : Word) : (s.pushed v).pc = s.pc := rfl
@[simp] theorem pushed_i (s : State) (v : Word) : (s.pushed v).i = s.i := rfl
@[simp] theorem pushed_r (s : State) (v : Word) : (s.pushed v).r = s.r := rfl
@[simp] theorem pushed_iff1 (s : State) (v : Word) : (s.pushed v).iff1 = s.iff1 := rfl
@[simp] theorem pushed_iff2 (s : State) (v : Word) : (s.pushed v).iff2 = s.iff2 := rfl
@[simp] theorem pushed_im (s : State) (v : Word) : (s.pushed v).im = s.im := rfl
@[simp] theorem pushed_halted (s : State) (v : Word) : (s.pushed v).halted = s.halted := rfl
@[simp] theorem pushed_intBlock (s : State) (v : Word) : (s.pushed v).intBlock = s.intBlock := rfl
@[simp] theorem pushed_nmiPending (s : State) (v : Word) : (s.pushed v).nmiPending = s.nmiPending := rfl
@[simp] theorem pushed_latch (s : State) (v : Word) : (s.pushed v).latch = s.latch := rfl
@[simp] theorem pushed_ldAir (s : State) (v : Word) : (s.pushed v).ldAir = s.ldAir := rfl
@[simp] theorem pushed_mem (s : State) (v : Word) : (s.pushed v).mem = (s.mem.set (s.sp - 1#16).toNat (hiByte v)).set (s.sp - 2#16).toNat (loByte v) := rfl
@[simp] theorem pushed_bus (s : State) (v : Word) : (s.pushed v).bus = s.bus := rfl
@[simp] theorem pushed_params (s : State) (v : Word) : (s.pushed v).params = s.params := rfl
@[simp] theorem pushed_inputs (s : State) (v : Word) : (s.pushed v).inputs = s.inputs := rfl
@[simp] theorem pushed_ioAnswers (s : State) (v : Word) : (s.pushed v).ioAnswers = s.ioAnswers := rfl
@[simp] theorem pushed_draws (s : State) (v : Word) : (s.pushed v).draws = s.draws := rfl
@[simp] theorem pushed_cycles (s : State) (v : Word) : (s.pushed v).cycles = s.cycles := rfl
@[simp] theorem pushed_events (s : State) (v : Word) : (s.pushed v).events = s.events := rfl

/-! ## enterInterrupt -/

@[simp] theorem enterInterrupt_a (s : State) (keep : Bool) : (s.enterInterrupt keep).a = s.a := rfl
@[simp] theorem enterInterrupt_f (s : State) (keep : Bool) : (s.enterInterrupt keep).f = s.f := rfl
@[simp] theorem enterInterrupt_b (s : State) (keep : Bool) : (s.enterInterrupt keep).b = s.b := rfl
@[simp] theorem enterInterrupt_c (s : State) (keep : Bool) : (s.enterInterrupt keep).c = s.c := rfl
@[simp] theorem enterInterrupt_d (s : State) (keep : Bool) : (s.enterInterrupt keep).d = s.d := rfl
@[simp] theorem enterInterrupt_e (s : State) (keep : Bool) : (s.enterInterrupt keep).e = s.e := rfl
@[simp] theorem enterInterrupt_h (s : State) (keep : Bool) : (s.enterInterrupt keep).h = s.h := rfl
@[simp] theorem enterInterrupt_l (s : State) (keep : Bool) : (s.enterInterrupt keep).l = s.l := rfl
@[simp] theorem enterInterrupt_altA (s : State) (keep : Bool) : (s.enterInterrupt keep).altA = s.altA := rfl
@[simp] theorem enterInterrupt_altF (s : State) (keep : Bool) : (s.enterInterrupt keep).altF = s.altF := rfl
@[simp] theorem enterInterrupt_altB (s : State) (keep : Bool) : (s.enterInterrupt keep).altB = s.altB := rfl
@[simp] theorem enterInterrupt_altC (s : State) (keep : Bool) : (s.enterInterrupt keep).altC = s.altC := rfl
@[simp] theorem enterInterrupt_altD (s : State) (keep : Bool) : (s.enterInterrupt keep).altD = s.altD := rfl
@[simp] theorem enterInterrupt_altE (s : State) (keep : Bool) : (s.enterInterrupt keep).altE = s.altE := rfl
@[simp] theorem enterInterrupt_altH (s : State) (keep : Bool) : (s.enterInterrupt keep).altH = s.altH := rfl
@[simp] theorem enterInterrupt_altL (s : State) (keep : Bool) : (s.enterInterrupt keep).altL = s.altL := rfl
@[simp] theorem enterInterrupt_ix (s : State) (keep : Bool) : (s.enterInterrupt keep).ix = s.ix := rfl
@[simp] theorem enterInterrupt_iy (s : State) (keep : Bool) : (s.enterInterrupt keep).iy = s.iy := rfl
@[simp] theorem enterInterrupt_sp (s : State) (keep : Bool) : (s.enterInterrupt keep).sp = s.sp := rfl
@[simp] theorem enterInterrupt_pc (s : State) (keep : Bool) : (s.enterInterrupt keep).pc = s.pc := rfl
@[simp] theorem enterInterrupt_i (s : State) (keep : Bool) : (s.enterInterrupt keep).i = s.i := rfl
@[simp] theorem enterInterrupt_r (s : State) (keep : Bool) : (s.enterInterrupt keep).r = refresh s.r := rfl
@[simp] theorem enterInterrupt_iff1 (s : State) (keep : Bool) : (s.enterInterrupt keep).iff1 = false := rfl
@[simp] theorem enterInterrupt_iff2 (s : State) (keep : Bool) : (s.enterInterrupt keep).iff2 = keep := rfl
@[simp] theorem enterInterrupt_im (s : State) (keep : Bool) : (s.enterInterrupt keep).im = s.im := rfl
@[simp] theorem enterInterrupt_halted (s : State) (keep : Bool) : (s.enterInterrupt keep).halted = false := rfl
@[simp] theorem enterInterrupt_intBlock (s : State) (keep : Bool) : (s.enterInterrupt keep).intBlock = s.intBlock := rfl
@[simp] theorem enterInterrupt_nmiPending (s : State) (keep : Bool) : (s.enterInterrupt keep).nmiPending = s.nmiPending := rfl
@[simp] theorem enterInterrupt_latch (s : State) (keep : Bool) : (s.enterInterrupt keep).latch = s.latch := rfl
@[simp] theorem enterInterrupt_ldAir (s : State) (keep : Bool) : (s.enterInterrupt keep).ldAir = s.ldAir := rfl
@[simp] theorem enterInterrupt_mem (s : State) (keep : Bool) : (s.enterInterrupt keep).mem = s.mem := rfl
@[simp] theorem enterInterrupt_bus (s : State) (keep : Bool) : (s.enterInterrupt keep).bus = s.bus := rfl
@[simp] theorem enterInterrupt_params (s : State) (keep : Bool) : (s.enterInterrupt keep).params = s.params := rfl
@[simp] theorem enterInterrupt_inputs (s : State) (keep : Bool) : (s.enterInterrupt keep).inputs = s.inputs := rfl
@[simp] theorem enterInterrupt_ioAnswers (s : State) (keep : Bool) : (s.enterInterrupt keep).ioAnswers = s.ioAnswers := rfl
@[simp] theorem enterInterrupt_draws (s : State) (keep : Bool) : (s.enterInterrupt keep).draws = s.draws := rfl
@[simp] theorem enterInterrupt_cycles (s : State) (keep : Bool) : (s.enterInterrupt keep).cycles = s.cycles := rfl
@[simp] theorem enterInterrupt_events (s : State) (keep : Bool) : (s.enterInterrupt keep).events = s.events := rfl

/-! ## setReg: the fields it never writes -/

@[simp] theorem setReg_f (s : State) (r : Reg8) (v : Byte) : (s.setReg r v).f = s.f := by
  cases r <;> rfl
@[simp] theorem setReg_altA (s : State) (r : Reg8) (v : Byte) : (s.setReg r v).altA = s.altA := by
  cases r <;> rfl
@[simp] theorem setReg_altF (s : State) (r : Reg8) (v : Byte) : (s.setReg r v).altF = s.altF := by
  cases r <;> rfl
@[simp] theorem setReg_altB (s : State) (r : Reg8) (v : Byte) : (s.setReg r v).altB = s.altB := by
  cases r <;> rfl
@[simp] theorem setReg_altC (s : State) (r : Reg8) (v : Byte) : (s.setReg r v).altC = s.altC := by
  cases r <;> rfl
@[simp] theorem setReg_altD (s : State) (r : Reg8) (v : Byte) : (s.setReg r v).altD = s.altD := by
  cases r <;> rfl
@[simp] theorem setReg_altE (s : State) (r : Reg8) (v : Byte) : (s.setReg r v).altE = s.altE := by
  cases r <;> rfl
@[simp] theorem setReg_altH (s : State) (r : Reg8) (v : Byte) : (s.setReg r v).altH = s.altH := by
  cases r <;> rfl
@[simp] theorem setReg_altL (s : State) (r : Reg8) (v : Byte) : (s.setReg r v).altL = s.altL := by
  cases r <;> rfl
@[simp] theorem setReg_ix (s : State) (r : Reg8) (v : Byte) : (s.setReg r v).ix = s.ix := by
  cases r <;> rfl
@[simp] theorem setReg_iy (s : State) (r : Reg8) (v : Byte) : (s.setReg r v).iy = s.iy := by
  cases r <;> rfl
@[simp] theorem setReg_sp (s : State) (r : Reg8) (v : Byte) : (s.setReg r v).sp = s.sp := by
  cases r <;> rfl
@[simp] theorem setReg_pc (s : State) (r : Reg8) (v : Byte) : (s.setReg r v).pc = s.pc := by
  cases r <;> rfl
@[simp] theorem setReg_i (s : State) (r : Reg8) (v : Byte) : (s.setReg r v).i = s.i := by
  cases r <;> rfl
@[simp] theorem setReg_r (s : State) (r : Reg8) (v : Byte) : (s.setReg r v).r = s.r := by
  cases r <;> rfl
@[simp] theorem setReg_iff1 (s : State) (r : Reg8) (v : Byte) : (s.setReg r v).iff1 = s.iff1 := by
  cases r <;> rfl
@[simp] theorem setReg_iff2 (s : State) (r : Reg8) (v : Byte) : (s.setReg r v).iff2 = s.iff2 := by
  cases r <;> rfl
@[simp] theorem setReg_im (s : State) (r : Reg8) (v : Byte) : (s.setReg r v).im = s.im := by
  cases r <;> rfl
@[simp] theorem setReg_halted (s : State) (r : Reg8) (v : Byte) : (s.setReg r v).halted = s.halted := by
  cases r <;> rfl
@[simp] theorem setReg_intBlock (s : State) (r : Reg8) (v : Byte) : (s.setReg r v).intBlock = s.intBlock := by
  cases r <;> rfl
@[simp] theorem setReg_nmiPending (s : State) (r : Reg8) (v : Byte) : (s.setReg r v).nmiPending = s.nmiPending := by
  cases r <;> rfl
@[simp] theorem setReg_latch (s : State) (r : Reg8) (v : Byte) : (s.setReg r v).latch = s.latch := by
  cases r <;> rfl
@[simp] theorem setReg_ldAir (s : State) (r : Reg8) (v : Byte) : (s.setReg r v).ldAir = s.ldAir := by
  cases r <;> rfl
@[simp] theorem setReg_mem (s : State) (r : Reg8) (v : Byte) : (s.setReg r v).mem = s.mem := by
  cases r <;> rfl
@[simp] theorem setReg_bus (s : State) (r : Reg8) (v : Byte) : (s.setReg r v).bus = s.bus := by
  cases r <;> rfl
@[simp] theorem setReg_params (s : State) (r : Reg8) (v : Byte) : (s.setReg r v).params = s.params := by
  cases r <;> rfl
@[simp] theorem setReg_inputs (s : State) (r : Reg8) (v : Byte) : (s.setReg r v).inputs = s.inputs := by
  cases r <;> rfl
@[simp] theorem setReg_ioAnswers (s : State) (r : Reg8) (v : Byte) : (s.setReg r v).ioAnswers = s.ioAnswers := by
  cases r <;> rfl
@[simp] theorem setReg_draws (s : State) (r : Reg8) (v : Byte) : (s.setReg r v).draws = s.draws := by
  cases r <;> rfl
@[simp] theorem setReg_cycles (s : State) (r : Reg8) (v : Byte) : (s.setReg r v).cycles = s.cycles := by
  cases r <;> rfl
@[simp] theorem setReg_events (s : State) (r : Reg8) (v : Byte) : (s.setReg r v).events = s.events := by
  cases r <;> rfl

/-! ## setPair: the fields it never writes -/

@[simp] theorem setPair_a (s : State) (rp : RegPair) (v : Word) : (s.setPair rp v).a = s.a := by
  cases rp <;> rfl
@[simp] theorem setPair_f (s : State) (rp : RegPair) (v : Word) : (s.setPair rp v).f = s.f := by
  cases rp <;> rfl
@[simp] theorem setPair_altA (s : State) (rp : RegPair) (v : Word) : (s.setPair rp v).altA = s.altA := by
  cases rp <;> rfl
@[simp] theorem setPair_altF (s : State) (rp : RegPair) (v : Word) : (s.setPair rp v).altF = s.altF := by
  cases rp <;> rfl
@[simp] theorem setPair_altB (s : State) (rp : RegPair) (v : Word) : (s.setPair rp v).altB = s.altB := by
  cases rp <;> rfl
@[simp] theorem setPair_altC (s : State) (rp : RegPair) (v : Word) : (s.setPair rp v).altC = s.altC := by
  cases rp <;> rfl
@[simp] theorem setPair_altD (s : State) (rp : RegPair) (v : Word) : (s.setPair rp v).altD = s.altD := by
  cases rp <;> rfl
@[simp] theorem setPair_altE (s : State) (rp : RegPair) (v : Word) : (s.setPair rp v).altE = s.altE := by
  cases rp <;> rfl
@[simp] theorem setPair_altH (s : State) (rp : RegPair) (v : Word) : (s.setPair rp v).altH = s.altH := by
  cases rp <;> rfl
@[simp] theorem setPair_altL (s : State) (rp : RegPair) (v : Word) : (s.setPair rp v).altL = s.altL := by
  cases rp <;> rfl
@[simp] theorem setPair_ix (s : State) (rp : RegPair) (v : Word) : (s.setPair rp v).ix = s.ix := by
  cases rp <;> rfl
@[simp] theorem setPair_iy (s : State) (rp : RegPair) (v : Word) : (s.setPair rp v).iy = s.iy := by
  cases rp <;> rfl
@[simp] theorem setPair_pc (s : State) (rp : RegPair) (v : Word) : (s.setPair rp v).pc = s.pc := by
  cases rp <;> rfl
@[simp] theorem setPair_i (s : State) (rp : RegPair) (v : Word) : (s.setPair rp v).i = s.i := by
  cases rp <;> rfl
@[simp] theorem setPair_r (s : State) (rp : RegPair) (v : Word) : (s.setPair rp v).r = s.r := by
  cases rp <;> rfl
@[simp] theorem setPair_iff1 (s : State) (rp : RegPair) (v : Word) : (s.setPair rp v).iff1 = s.iff1 := by
  cases rp <;> rfl
@[simp] theorem setPair_iff2 (s : State) (rp : RegPair) (v : Word) : (s.setPair rp v).iff2 = s.iff2 := by
  cases rp <;> rfl
@[simp] theorem setPair_im (s : State) (rp : RegPair) (v : Word) : (s.setPair rp v).im = s.im := by
  cases rp <;> rfl
@[simp] theorem setPair_halted (s : State) (rp : RegPair) (v : Word) : (s.setPair rp v).halted = s.halted := by
  cases rp <;> rfl
@[simp] theorem setPair_intBlock (s : State) (rp : RegPair) (v : Word) : (s.setPair rp v).intBlock = s.intBlock := by
  cases rp <;> rfl
@[simp] theorem setPair_nmiPending (s : State) (rp : RegPair) (v : Word) : (s.setPair rp v).nmiPending = s.nmiPending := by
  cases rp <;> rfl
@[simp] theorem setPair_latch (s : State) (rp : RegPair) (v : Word) : (s.setPair rp v).latch = s.latch := by
  cases rp <;> rfl
@[simp] theorem setPair_ldAir (s : State) (rp : RegPair) (v : Word) : (s.setPair rp v).ldAir = s.ldAir := by
  cases rp <;> rfl
@[simp] theorem setPair_mem (s : State) (rp : RegPair) (v : Word) : (s.setPair rp v).mem = s.mem := by
  cases rp <;> rfl
@[simp] theorem setPair_bus (s : State) (rp : RegPair) (v : Word) : (s.setPair rp v).bus = s.bus := by
  cases rp <;> rfl
@[simp] theorem setPair_params (s : State) (rp : RegPair) (v : Word) : (s.setPair rp v).params = s.params := by
  cases rp <;> rfl
@[simp] theorem setPair_inputs (s : State) (rp : RegPair) (v : Word) : (s.setPair rp v).inputs = s.inputs := by
  cases rp <;> rfl
@[simp] theorem setPair_ioAnswers (s : State) (rp : RegPair) (v : Word) : (s.setPair rp v).ioAnswers = s.ioAnswers := by
  cases rp <;> rfl
@[simp] theorem setPair_draws (s : State) (rp : RegPair) (v : Word) : (s.setPair rp v).draws = s.draws := by
  cases rp <;> rfl
@[simp] theorem setPair_cycles (s : State) (rp : RegPair) (v : Word) : (s.setPair rp v).cycles = s.cycles := by
  cases rp <;> rfl
@[simp] theorem setPair_events (s : State) (rp : RegPair) (v : Word) : (s.setPair rp v).events = s.events := by
  cases rp <;> rfl

/-! ## setStackPair: the fields it never writes -/

@[simp] theorem setStackPair_altA (s : State) (rp : StackPair) (v : Word) : (s.setStackPair rp v).altA = s.altA := by
  cases rp <;> rfl
@[simp] theorem setStackPair_altF (s : State) (rp : StackPair) (v : Word) : (s.setStackPair rp v).altF = s.altF := by
  cases rp <;> rfl
@[simp] theorem setStackPair_altB (s : State) (rp : StackPair) (v : Word) : (s.setStackPair rp v).altB = s.altB := by
  cases rp <;> rfl
@[simp] theorem setStackPair_altC (s : State) (rp : StackPair) (v : Word) : (s.setStackPair rp v).altC = s.altC := by
  cases rp <;> rfl
@[simp] theorem setStackPair_altD (s : State) (rp : StackPair) (v : Word) : (s.setStackPair rp v).altD = s.altD := by
  cases rp <;> rfl
@[simp] theorem setStackPair_altE (s : State) (rp : StackPair) (v : Word) : (s.setStackPair rp v).altE = s.altE := by
  cases rp <;> rfl
@[simp] theorem setStackPair_altH (s : State) (rp : StackPair) (v : Word) : (s.setStackPair rp v).altH = s.altH := by
  cases rp <;> rfl
@[simp] theorem setStackPair_altL (s : State) (rp : StackPair) (v : Word) : (s.setStackPair rp v).altL = s.altL := by
  cases rp <;> rfl
@[simp] theorem setStackPair_ix (s : State) (rp : StackPair) (v : Word) : (s.setStackPair rp v).ix = s.ix := by
  cases rp <;> rfl
@[simp] theorem setStackPair_iy (s : State) (rp : StackPair) (v : Word) : (s.setStackPair rp v).iy = s.iy := by
  cases rp <;> rfl
@[simp] theorem setStackPair_sp (s : State) (rp : StackPair) (v : Word) : (s.setStackPair rp v).sp = s.sp := by
  cases rp <;> rfl
@[simp] theorem setStackPair_pc (s : State) (rp : StackPair) (v : Word) : (s.setStackPair rp v).pc = s.pc := by
  cases rp <;> rfl
@[simp] theorem setStackPair_i (s : State) (rp : StackPair) (v : Word) : (s.setStackPair rp v).i = s.i := by
  cases rp <;> rfl
@[simp] theorem setStackPair_r (s : State) (rp : StackPair) (v : Word) : (s.setStackPair rp v).r = s.r := by
  cases rp <;> rfl
@[simp] theorem setStackPair_iff1 (s : State) (rp : StackPair) (v : Word) : (s.setStackPair rp v).iff1 = s.iff1 := by
  cases rp <;> rfl
@[simp] theorem setStackPair_iff2 (s : State) (rp : StackPair) (v : Word) : (s.setStackPair rp v).iff2 = s.iff2 := by
  cases rp <;> rfl
@[simp] theorem setStackPair_im (s : State) (rp : StackPair) (v : Word) : (s.setStackPair rp v).im = s.im := by
  cases rp <;> rfl
@[simp] theorem setStackPair_halted (s : State) (rp : StackPair) (v : Word) : (s.setStackPair rp v).halted = s.halted := by
  cases rp <;> rfl
@[simp] theorem setStackPair_intBlock (s : State) (rp : StackPair) (v : Word) : (s.setStackPair rp v).intBlock = s.intBlock := by
  cases rp <;> rfl
@[simp] theorem setStackPair_nmiPending (s : State) (rp : StackPair) (v : Word) : (s.setStackPair rp v).nmiPending = s.nmiPending := by
  cases rp <;> rfl
@[simp] theorem setStackPair_latch (s : State) (rp : StackPair) (v : Word) : (s.setStackPair rp v).latch = s.latch := by
  cases rp <;> rfl
@[simp] theorem setStackPair_ldAir (s : State) (rp : StackPair) (v : Word) : (s.setStackPair rp v).ldAir = s.ldAir := by
  cases rp <;> rfl
@[simp] theorem setStackPair_mem (s : State) (rp : StackPair) (v : Word) : (s.setStackPair rp v).mem = s.mem := by
  cases rp <;> rfl
@[simp] theorem setStackPair_bus (s : State) (rp : StackPair) (v : Word) : (s.setStackPair rp v).bus = s.bus := by
  cases rp <;> rfl
@[simp] theorem setStackPair_params (s : State) (rp : StackPair) (v : Word) : (s.setStackPair rp v).params = s.params := by
  cases rp <;> rfl
@[simp] theorem setStackPair_inputs (s : State) (rp : StackPair) (v : Word) : (s.setStackPair rp v).inputs = s.inputs := by
  cases rp <;> rfl
@[simp] theorem setStackPair_ioAnswers (s : State) (rp : StackPair) (v : Word) : (s.setStackPair rp v).ioAnswers = s.ioAnswers := by
  cases rp <;> rfl
@[simp] theorem setStackPair_draws (s : State) (rp : StackPair) (v : Word) : (s.setStackPair rp v).draws = s.draws := by
  cases rp <;> rfl
@[simp] theorem setStackPair_cycles (s : State) (rp : StackPair) (v : Word) : (s.setStackPair rp v).cycles = s.cycles := by
  cases rp <;> rfl
@[simp] theorem setStackPair_events (s : State) (rp : StackPair) (v : Word) : (s.setStackPair rp v).events = s.events := by
  cases rp <;> rfl

/-! ## setXy: the fields it never writes -/

@[simp] theorem setXy_a (s : State) (x : XY) (v : Word) : (s.setXy x v).a = s.a := by
  cases x <;> rfl
@[simp] theorem setXy_f (s : State) (x : XY) (v : Word) : (s.setXy x v).f = s.f := by
  cases x <;> rfl
@[simp] theorem setXy_b (s : State) (x : XY) (v : Word) : (s.setXy x v).b = s.b := by
  cases x <;> rfl
@[simp] theorem setXy_c (s : State) (x : XY) (v : Word) : (s.setXy x v).c = s.c := by
  cases x <;> rfl
@[simp] theorem setXy_d (s : State) (x : XY) (v : Word) : (s.setXy x v).d = s.d := by
  cases x <;> rfl
@[simp] theorem setXy_e (s : State) (x : XY) (v : Word) : (s.setXy x v).e = s.e := by
  cases x <;> rfl
@[simp] theorem setXy_h (s : State) (x : XY) (v : Word) : (s.setXy x v).h = s.h := by
  cases x <;> rfl
@[simp] theorem setXy_l (s : State) (x : XY) (v : Word) : (s.setXy x v).l = s.l := by
  cases x <;> rfl
@[simp] theorem setXy_altA (s : State) (x : XY) (v : Word) : (s.setXy x v).altA = s.altA := by
  cases x <;> rfl
@[simp] theorem setXy_altF (s : State) (x : XY) (v : Word) : (s.setXy x v).altF = s.altF := by
  cases x <;> rfl
@[simp] theorem setXy_altB (s : State) (x : XY) (v : Word) : (s.setXy x v).altB = s.altB := by
  cases x <;> rfl
@[simp] theorem setXy_altC (s : State) (x : XY) (v : Word) : (s.setXy x v).altC = s.altC := by
  cases x <;> rfl
@[simp] theorem setXy_altD (s : State) (x : XY) (v : Word) : (s.setXy x v).altD = s.altD := by
  cases x <;> rfl
@[simp] theorem setXy_altE (s : State) (x : XY) (v : Word) : (s.setXy x v).altE = s.altE := by
  cases x <;> rfl
@[simp] theorem setXy_altH (s : State) (x : XY) (v : Word) : (s.setXy x v).altH = s.altH := by
  cases x <;> rfl
@[simp] theorem setXy_altL (s : State) (x : XY) (v : Word) : (s.setXy x v).altL = s.altL := by
  cases x <;> rfl
@[simp] theorem setXy_sp (s : State) (x : XY) (v : Word) : (s.setXy x v).sp = s.sp := by
  cases x <;> rfl
@[simp] theorem setXy_pc (s : State) (x : XY) (v : Word) : (s.setXy x v).pc = s.pc := by
  cases x <;> rfl
@[simp] theorem setXy_i (s : State) (x : XY) (v : Word) : (s.setXy x v).i = s.i := by
  cases x <;> rfl
@[simp] theorem setXy_r (s : State) (x : XY) (v : Word) : (s.setXy x v).r = s.r := by
  cases x <;> rfl
@[simp] theorem setXy_iff1 (s : State) (x : XY) (v : Word) : (s.setXy x v).iff1 = s.iff1 := by
  cases x <;> rfl
@[simp] theorem setXy_iff2 (s : State) (x : XY) (v : Word) : (s.setXy x v).iff2 = s.iff2 := by
  cases x <;> rfl
@[simp] theorem setXy_im (s : State) (x : XY) (v : Word) : (s.setXy x v).im = s.im := by
  cases x <;> rfl
@[simp] theorem setXy_halted (s : State) (x : XY) (v : Word) : (s.setXy x v).halted = s.halted := by
  cases x <;> rfl
@[simp] theorem setXy_intBlock (s : State) (x : XY) (v : Word) : (s.setXy x v).intBlock = s.intBlock := by
  cases x <;> rfl
@[simp] theorem setXy_nmiPending (s : State) (x : XY) (v : Word) : (s.setXy x v).nmiPending = s.nmiPending := by
  cases x <;> rfl
@[simp] theorem setXy_latch (s : State) (x : XY) (v : Word) : (s.setXy x v).latch = s.latch := by
  cases x <;> rfl
@[simp] theorem setXy_ldAir (s : State) (x : XY) (v : Word) : (s.setXy x v).ldAir = s.ldAir := by
  cases x <;> rfl
@[simp] theorem setXy_mem (s : State) (x : XY) (v : Word) : (s.setXy x v).mem = s.mem := by
  cases x <;> rfl
@[simp] theorem setXy_bus (s : State) (x : XY) (v : Word) : (s.setXy x v).bus = s.bus := by
  cases x <;> rfl
@[simp] theorem setXy_params (s : State) (x : XY) (v : Word) : (s.setXy x v).params = s.params := by
  cases x <;> rfl
@[simp] theorem setXy_inputs (s : State) (x : XY) (v : Word) : (s.setXy x v).inputs = s.inputs := by
  cases x <;> rfl
@[simp] theorem setXy_ioAnswers (s : State) (x : XY) (v : Word) : (s.setXy x v).ioAnswers = s.ioAnswers := by
  cases x <;> rfl
@[simp] theorem setXy_draws (s : State) (x : XY) (v : Word) : (s.setXy x v).draws = s.draws := by
  cases x <;> rfl
@[simp] theorem setXy_cycles (s : State) (x : XY) (v : Word) : (s.setXy x v).cycles = s.cycles := by
  cases x <;> rfl
@[simp] theorem setXy_events (s : State) (x : XY) (v : Word) : (s.setXy x v).events = s.events := by
  cases x <;> rfl

/-! ## setHalf: the fields it never writes -/

@[simp] theorem setHalf_a (s : State) (x : XY) (hf : Half) (v : Byte) : (s.setHalf x hf v).a = s.a := by
  cases x <;> cases hf <;> rfl
@[simp] theorem setHalf_f (s : State) (x : XY) (hf : Half) (v : Byte) : (s.setHalf x hf v).f = s.f := by
  cases x <;> cases hf <;> rfl
@[simp] theorem setHalf_b (s : State) (x : XY) (hf : Half) (v : Byte) : (s.setHalf x hf v).b = s.b := by
  cases x <;> cases hf <;> rfl
@[simp] theorem setHalf_c (s : State) (x : XY) (hf : Half) (v : Byte) : (s.setHalf x hf v).c = s.c := by
  cases x <;> cases hf <;> rfl
@[simp] theorem setHalf_d (s : State) (x : XY) (hf : Half) (v : Byte) : (s.setHalf x hf v).d = s.d := by
  cases x <;> cases hf <;> rfl
@[simp] theorem setHalf_e (s : State) (x : XY) (hf : Half) (v : Byte) : (s.setHalf x hf v).e = s.e := by
  cases x <;> cases hf <;> rfl
@[simp] theorem setHalf_h (s : State) (x : XY) (hf : Half) (v : Byte) : (s.setHalf x hf v).h = s.h := by
  cases x <;> cases hf <;> rfl
@[simp] theorem setHalf_l (s : State) (x : XY) (hf : Half) (v : Byte) : (s.setHalf x hf v).l = s.l := by
  cases x <;> cases hf <;> rfl
@[simp] theorem setHalf_altA (s : State) (x : XY) (hf : Half) (v : Byte) : (s.setHalf x hf v).altA = s.altA := by
  cases x <;> cases hf <;> rfl
@[simp] theorem setHalf_altF (s : State) (x : XY) (hf : Half) (v : Byte) : (s.setHalf x hf v).altF = s.altF := by
  cases x <;> cases hf <;> rfl
@[simp] theorem setHalf_altB (s : State) (x : XY) (hf : Half) (v : Byte) : (s.setHalf x hf v).altB = s.altB := by
  cases x <;> cases hf <;> rfl
@[simp] theorem setHalf_altC (s : State) (x : XY) (hf : Half) (v : Byte) : (s.setHalf x hf v).altC = s.altC := by
  cases x <;> cases hf <;> rfl
@[simp] theorem setHalf_altD (s : State) (x : XY) (hf : Half) (v : Byte) : (s.setHalf x hf v).altD = s.altD := by
  cases x <;> cases hf <;> rfl
@[simp] theorem setHalf_altE (s : State) (x : XY) (hf : Half) (v : Byte) : (s.setHalf x hf v).altE = s.altE := by
  cases x <;> cases hf <;> rfl
@[simp] theorem setHalf_altH (s : State) (x : XY) (hf : Half) (v : Byte) : (s.setHalf x hf v).altH = s.altH := by
  cases x <;> cases hf <;> rfl
@[simp] theorem setHalf_altL (s : State) (x : XY) (hf : Half) (v : Byte) : (s.setHalf x hf v).altL = s.altL := by
  cases x <;> cases hf <;> rfl
@[simp] theorem setHalf_sp (s : State) (x : XY) (hf : Half) (v : Byte) : (s.setHalf x hf v).sp = s.sp := by
  cases x <;> cases hf <;> rfl
@[simp] theorem setHalf_pc (s : State) (x : XY) (hf : Half) (v : Byte) : (s.setHalf x hf v).pc = s.pc := by
  cases x <;> cases hf <;> rfl
@[simp] theorem setHalf_i (s : State) (x : XY) (hf : Half) (v : Byte) : (s.setHalf x hf v).i = s.i := by
  cases x <;> cases hf <;> rfl
@[simp] theorem setHalf_r (s : State) (x : XY) (hf : Half) (v : Byte) : (s.setHalf x hf v).r = s.r := by
  cases x <;> cases hf <;> rfl
@[simp] theorem setHalf_iff1 (s : State) (x : XY) (hf : Half) (v : Byte) : (s.setHalf x hf v).iff1 = s.iff1 := by
  cases x <;> cases hf <;> rfl
@[simp] theorem setHalf_iff2 (s : State) (x : XY) (hf : Half) (v : Byte) : (s.setHalf x hf v).iff2 = s.iff2 := by
  cases x <;> cases hf <;> rfl
@[simp] theorem setHalf_im (s : State) (x : XY) (hf : Half) (v : Byte) : (s.setHalf x hf v).im = s.im := by
  cases x <;> cases hf <;> rfl
@[simp] theorem setHalf_halted (s : State) (x : XY) (hf : Half) (v : Byte) : (s.setHalf x hf v).halted = s.halted := by
  cases x <;> cases hf <;> rfl
@[simp] theorem setHalf_intBlock (s : State) (x : XY) (hf : Half) (v : Byte) : (s.setHalf x hf v).intBlock = s.intBlock := by
  cases x <;> cases hf <;> rfl
@[simp] theorem setHalf_nmiPending (s : State) (x : XY) (hf : Half) (v : Byte) : (s.setHalf x hf v).nmiPending = s.nmiPending := by
  cases x <;> cases hf <;> rfl
@[simp] theorem setHalf_latch (s : State) (x : XY) (hf : Half) (v : Byte) : (s.setHalf x hf v).latch = s.latch := by
  cases x <;> cases hf <;> rfl
@[simp] theorem setHalf_ldAir (s : State) (x : XY) (hf : Half) (v : Byte) : (s.setHalf x hf v).ldAir = s.ldAir := by
  cases x <;> cases hf <;> rfl
@[simp] theorem setHalf_mem (s : State) (x : XY) (hf : Half) (v : Byte) : (s.setHalf x hf v).mem = s.mem := by
  cases x <;> cases hf <;> rfl
@[simp] theorem setHalf_bus (s : State) (x : XY) (hf : Half) (v : Byte) : (s.setHalf x hf v).bus = s.bus := by
  cases x <;> cases hf <;> rfl
@[simp] theorem setHalf_params (s : State) (x : XY) (hf : Half) (v : Byte) : (s.setHalf x hf v).params = s.params := by
  cases x <;> cases hf <;> rfl
@[simp] theorem setHalf_inputs (s : State) (x : XY) (hf : Half) (v : Byte) : (s.setHalf x hf v).inputs = s.inputs := by
  cases x <;> cases hf <;> rfl
@[simp] theorem setHalf_ioAnswers (s : State) (x : XY) (hf : Half) (v : Byte) : (s.setHalf x hf v).ioAnswers = s.ioAnswers := by
  cases x <;> cases hf <;> rfl
@[simp] theorem setHalf_draws (s : State) (x : XY) (hf : Half) (v : Byte) : (s.setHalf x hf v).draws = s.draws := by
  cases x <;> cases hf <;> rfl
@[simp] theorem setHalf_cycles (s : State) (x : XY) (hf : Half) (v : Byte) : (s.setHalf x hf v).cycles = s.cycles := by
  cases x <;> cases hf <;> rfl
@[simp] theorem setHalf_events (s : State) (x : XY) (hf : Half) (v : Byte) : (s.setHalf x hf v).events = s.events := by
  cases x <;> cases hf <;> rfl

/-! ## setRegX: the fields it never writes -/

@[simp] theorem setRegX_f (s : State) (x : XY) (r : RegX) (v : Byte) : (s.setRegX x r v).f = s.f := by
  cases x <;> cases r <;> rfl
@[simp] theorem setRegX_h (s : State) (x : XY) (r : RegX) (v : Byte) : (s.setRegX x r v).h = s.h := by
  cases x <;> cases r <;> rfl
@[simp] theorem setRegX_l (s : State) (x : XY) (r : RegX) (v : Byte) : (s.setRegX x r v).l = s.l := by
  cases x <;> cases r <;> rfl
@[simp] theorem setRegX_altA (s : State) (x : XY) (r : RegX) (v : Byte) : (s.setRegX x r v).altA = s.altA := by
  cases x <;> cases r <;> rfl
@[simp] theorem setRegX_altF (s : State) (x : XY) (r : RegX) (v : Byte) : (s.setRegX x r v).altF = s.altF := by
  cases x <;> cases r <;> rfl
@[simp] theorem setRegX_altB (s : State) (x : XY) (r : RegX) (v : Byte) : (s.setRegX x r v).altB = s.altB := by
  cases x <;> cases r <;> rfl
@[simp] theorem setRegX_altC (s : State) (x : XY) (r : RegX) (v : Byte) : (s.setRegX x r v).altC = s.altC := by
  cases x <;> cases r <;> rfl
@[simp] theorem setRegX_altD (s : State) (x : XY) (r : RegX) (v : Byte) : (s.setRegX x r v).altD = s.altD := by
  cases x <;> cases r <;> rfl
@[simp] theorem setRegX_altE (s : State) (x : XY) (r : RegX) (v : Byte) : (s.setRegX x r v).altE = s.altE := by
  cases x <;> cases r <;> rfl
@[simp] theorem setRegX_altH (s : State) (x : XY) (r : RegX) (v : Byte) : (s.setRegX x r v).altH = s.altH := by
  cases x <;> cases r <;> rfl
@[simp] theorem setRegX_altL (s : State) (x : XY) (r : RegX) (v : Byte) : (s.setRegX x r v).altL = s.altL := by
  cases x <;> cases r <;> rfl
@[simp] theorem setRegX_sp (s : State) (x : XY) (r : RegX) (v : Byte) : (s.setRegX x r v).sp = s.sp := by
  cases x <;> cases r <;> rfl
@[simp] theorem setRegX_pc (s : State) (x : XY) (r : RegX) (v : Byte) : (s.setRegX x r v).pc = s.pc := by
  cases x <;> cases r <;> rfl
@[simp] theorem setRegX_i (s : State) (x : XY) (r : RegX) (v : Byte) : (s.setRegX x r v).i = s.i := by
  cases x <;> cases r <;> rfl
@[simp] theorem setRegX_r (s : State) (x : XY) (r : RegX) (v : Byte) : (s.setRegX x r v).r = s.r := by
  cases x <;> cases r <;> rfl
@[simp] theorem setRegX_iff1 (s : State) (x : XY) (r : RegX) (v : Byte) : (s.setRegX x r v).iff1 = s.iff1 := by
  cases x <;> cases r <;> rfl
@[simp] theorem setRegX_iff2 (s : State) (x : XY) (r : RegX) (v : Byte) : (s.setRegX x r v).iff2 = s.iff2 := by
  cases x <;> cases r <;> rfl
@[simp] theorem setRegX_im (s : State) (x : XY) (r : RegX) (v : Byte) : (s.setRegX x r v).im = s.im := by
  cases x <;> cases r <;> rfl
@[simp] theorem setRegX_halted (s : State) (x : XY) (r : RegX) (v : Byte) : (s.setRegX x r v).halted = s.halted := by
  cases x <;> cases r <;> rfl
@[simp] theorem setRegX_intBlock (s : State) (x : XY) (r : RegX) (v : Byte) : (s.setRegX x r v).intBlock = s.intBlock := by
  cases x <;> cases r <;> rfl
@[simp] theorem setRegX_nmiPending (s : State) (x : XY) (r : RegX) (v : Byte) : (s.setRegX x r v).nmiPending = s.nmiPending := by
  cases x <;> cases r <;> rfl
@[simp] theorem setRegX_latch (s : State) (x : XY) (r : RegX) (v : Byte) : (s.setRegX x r v).latch = s.latch := by
  cases x <;> cases r <;> rfl
@[simp] theorem setRegX_ldAir (s : State) (x : XY) (r : RegX) (v : Byte) : (s.setRegX x r v).ldAir = s.ldAir := by
  cases x <;> cases r <;> rfl
@[simp] theorem setRegX_mem (s : State) (x : XY) (r : RegX) (v : Byte) : (s.setRegX x r v).mem = s.mem := by
  cases x <;> cases r <;> rfl
@[simp] theorem setRegX_bus (s : State) (x : XY) (r : RegX) (v : Byte) : (s.setRegX x r v).bus = s.bus := by
  cases x <;> cases r <;> rfl
@[simp] theorem setRegX_params (s : State) (x : XY) (r : RegX) (v : Byte) : (s.setRegX x r v).params = s.params := by
  cases x <;> cases r <;> rfl
@[simp] theorem setRegX_inputs (s : State) (x : XY) (r : RegX) (v : Byte) : (s.setRegX x r v).inputs = s.inputs := by
  cases x <;> cases r <;> rfl
@[simp] theorem setRegX_ioAnswers (s : State) (x : XY) (r : RegX) (v : Byte) : (s.setRegX x r v).ioAnswers = s.ioAnswers := by
  cases x <;> cases r <;> rfl
@[simp] theorem setRegX_draws (s : State) (x : XY) (r : RegX) (v : Byte) : (s.setRegX x r v).draws = s.draws := by
  cases x <;> cases r <;> rfl
@[simp] theorem setRegX_cycles (s : State) (x : XY) (r : RegX) (v : Byte) : (s.setRegX x r v).cycles = s.cycles := by
  cases x <;> cases r <;> rfl
@[simp] theorem setRegX_events (s : State) (x : XY) (r : RegX) (v : Byte) : (s.setRegX x r v).events = s.events := by
  cases x <;> cases r <;> rfl

/-! ## Halves and pairs -/

end State

theorem toNat_pair (hi lo : Byte) : (pair hi lo).toNat = hi.toNat * 256 + lo.toNat := by
  have h : (pair hi lo).toNat = hi.toNat <<< 8 ||| lo.toNat := BitVec.toNat_append hi lo
  rw [h, ← Nat.shiftLeft_add_eq_or_of_lt lo.isLt, Nat.shiftLeft_eq]

theorem toNat_hiByte (v : Word) : (hiByte v).toNat = v.toNat / 256 := by
  simp only [hiByte, BitVec.extractLsb'_toNat, Nat.shiftRight_eq_div_pow]
  omega

theorem toNat_loByte (v : Word) : (loByte v).toNat = v.toNat % 256 := by
  simp [loByte]

@[simp] theorem pair_hi_lo (v : Word) : pair (hiByte v) (loByte v) = v := by
  apply BitVec.eq_of_toNat_eq
  rw [toNat_pair, toNat_hiByte, toNat_loByte]
  omega

@[simp] theorem hiByte_pair (hi lo : Byte) : hiByte (pair hi lo) = hi := by
  apply BitVec.eq_of_toNat_eq
  rw [toNat_hiByte, toNat_pair]
  omega

@[simp] theorem loByte_pair (hi lo : Byte) : loByte (pair hi lo) = lo := by
  apply BitVec.eq_of_toNat_eq
  rw [toNat_loByte, toNat_pair]
  omega

namespace State

@[simp] theorem bc_setBc (s : State) (v : Word) : (s.setBc v).bc = v := pair_hi_lo v
@[simp] theorem de_setDe (s : State) (v : Word) : (s.setDe v).de = v := pair_hi_lo v
@[simp] theorem hl_setHl (s : State) (v : Word) : (s.setHl v).hl = v := pair_hi_lo v
@[simp] theorem af_setAf (s : State) (v : Word) : (s.setAf v).af = v := pair_hi_lo v

@[simp] theorem reg_setReg (s : State) (r : Reg8) (v : Byte) : (s.setReg r v).reg r = v := by cases r <;> rfl
@[simp] theorem pairOf_setPair (s : State) (rp : RegPair) (v : Word) : (s.setPair rp v).pairOf rp = v := by
  cases rp <;> first | exact pair_hi_lo v | rfl
@[simp] theorem stackPair_setStackPair (s : State) (rp : StackPair) (v : Word) :
    (s.setStackPair rp v).stackPair rp = v := by
  cases rp <;> exact pair_hi_lo v
@[simp] theorem xy_setXy (s : State) (x : XY) (v : Word) : (s.setXy x v).xy x = v := by cases x <;> rfl
@[simp] theorem half_setHalf (s : State) (x : XY) (hf : Half) (v : Byte) : (s.setHalf x hf v).half x hf = v := by
  cases x <;> cases hf <;> simp [setHalf, half, setXy, xy]
@[simp] theorem half_low_setHalf_high (s : State) (x : XY) (v : Byte) :
    (s.setHalf x .high v).half x .low = s.half x .low := by
  cases x <;> simp [setHalf, half, setXy, xy]
@[simp] theorem half_high_setHalf_low (s : State) (x : XY) (v : Byte) :
    (s.setHalf x .low v).half x .high = s.half x .high := by
  cases x <;> simp [setHalf, half, setXy, xy]
@[simp] theorem regX_setRegX (s : State) (x : XY) (r : RegX) (v : Byte) : (s.setRegX x r v).regX x r = v := by
  cases r <;> first
    | rfl
    | exact half_setHalf s x .high v
    | exact half_setHalf s x .low v

end State

end Sys2Proof.Machine
end

