-- ==== Sys2Proof/Laws/Ops.lean ====
section
/-! SUPPORT. What each shared operation of Machine/Ops.lean can do, said once: the state it goes on with, the fault it ends in, and, for
a next state, everything that led to it. -/

namespace Sys2Proof.Machine

/-! ## Results -/

theorem andThen_next (res : Result) (k : State → Result) (t : State) :
    andThen res k = .next t ↔ ∃ u, res = .next u ∧ k u = .next t := by
  cases res <;> simp [andThen]

theorem andThen_fault (res : Result) (k : State → Result) (e : Fault) :
    andThen res k = .fault e ↔ res = .fault e ∨ ∃ u, res = .next u ∧ k u = .fault e := by
  cases res <;> simp [andThen]

theorem andThen_refused (res : Result) (k : State → Result) (e : Refusal) :
    andThen res k = .refused e ↔ res = .refused e ∨ ∃ u, res = .next u ∧ k u = .refused e := by
  cases res <;> simp [andThen]

/-- A step that ends in a next state: the instruction's, with int_block and ld_air recorded. -/
theorem endStep_next (block : IntBlock) (air : Bool) (res : Result) (t : State) :
    endStep block air res = .next t ↔ ∃ u, res = .next u ∧ t = { u with intBlock := block, ldAir := air } := by
  simp only [endStep, andThen_next, Host.Outcome.next.injEq]
  exact exists_congr fun u => and_congr_right fun _ => eq_comm

theorem endStep_fault (block : IntBlock) (air : Bool) (res : Result) (e : Fault) :
    endStep block air res = .fault e ↔ res = .fault e := by
  simp [endStep, andThen_fault]

theorem endStep_refused (block : IntBlock) (air : Bool) (res : Result) (e : Refusal) :
    endStep block air res = .refused e ↔ res = .refused e := by
  simp [endStep, andThen_refused]

/-- Two faults of one kind and address differ only in the state they leave. -/
@[simp] theorem left_toFault (e : AccessError) (s : State) : (e.toFault s).left = s := by cases e <;> rfl

/-! ## One byte -/

theorem loadByte_ok (s : State) (a : Word) (v : Byte) (k : Byte → Result) (h : s.peek a = .ok v) :
    loadByte s a k = k v := by
  simp [loadByte, h]

theorem loadByte_error (s : State) (a : Word) (e : AccessError) (k : Byte → Result) (h : s.peek a = .error e) :
    loadByte s a k = .fault (e.toFault s) := by
  simp [loadByte, h]

/-- A load goes on with the byte read, or faults where it stands. -/
theorem loadByte_cases (s : State) (a : Word) (k : Byte → Result) :
    (∃ v, s.peek a = .ok v ∧ loadByte s a k = k v) ∨
      ∃ e, s.peek a = .error e ∧ loadByte s a k = .fault (e.toFault s) := by
  cases h : s.peek a with
  | ok v => exact .inl ⟨v, rfl, loadByte_ok s a v k h⟩
  | error e => exact .inr ⟨e, rfl, loadByte_error s a e k h⟩

theorem loadByte_next (s t : State) (a : Word) (k : Byte → Result) :
    loadByte s a k = .next t ↔ ∃ v, s.peek a = .ok v ∧ k v = .next t := by
  cases h : s.peek a <;> simp [loadByte, h]

theorem writeFails_iff (s : State) (a : Word) (e : AccessError) :
    WriteFails s a e ↔ s.writable a = false ∧ s.bus.write s.mem a 0#8 = .error e := by
  constructor
  · exact fun h => ⟨AddressSpace.write_error _ _ _ _ _ (h 0#8), h 0#8⟩
  · rintro ⟨h, h0⟩ v
    obtain ⟨e', he⟩ := AddressSpace.write_of_not_isRam s.bus s.mem a h
    rw [he 0#8] at h0
    rw [he v, h0]

theorem storeByte_ok (s : State) (a : Word) (v : Byte) (k : State → Result) (h : s.writable a = true) :
    storeByte s a v k = k (s.put a v) := by
  simp [storeByte, AddressSpace.write_of_isRam s.bus s.mem a v h, State.put]

theorem storeByte_error (s : State) (a : Word) (v : Byte) (e : AccessError) (k : State → Result)
    (h : WriteFails s a e) : storeByte s a v k = .fault (e.toFault s) := by
  simp [storeByte, h v]

/-- A store goes on with the byte stored, or faults where it stands. -/
theorem storeByte_cases (s : State) (a : Word) (v : Byte) (k : State → Result) :
    (s.writable a = true ∧ storeByte s a v k = k (s.put a v)) ∨
      ∃ e, s.writable a = false ∧ WriteFails s a e ∧ storeByte s a v k = .fault (e.toFault s) := by
  cases h : s.writable a with
  | true => exact .inl ⟨rfl, storeByte_ok s a v k h⟩
  | false =>
    obtain ⟨e, he⟩ := AddressSpace.write_of_not_isRam s.bus s.mem a h
    exact .inr ⟨e, rfl, he, storeByte_error s a v e k he⟩

theorem storeByte_next (s t : State) (a : Word) (v : Byte) (k : State → Result) :
    storeByte s a v k = .next t ↔ s.writable a = true ∧ k (s.put a v) = .next t := by
  rcases storeByte_cases s a v k with ⟨h, hk⟩ | ⟨e, h, _, hk⟩ <;> simp [h, hk]

/-! ## What a store leaves -/

/-- A byte stored is read back at its address and nowhere else. -/
theorem peek_put (s : State) (a b : Word) (v : Byte) (h : s.writable a = true) :
    (s.put a v).peek b = if b = a then .ok v else s.peek b :=
  AddressSpace.read_set s.bus s.mem a b v h

theorem peek_put_of_ne (s : State) (a b : Word) (v : Byte) (hne : b ≠ a) : (s.put a v).peek b = s.peek b :=
  AddressSpace.read_congr s.bus _ _ b
    (Memory.get_set_of_ne s.mem _ _ v fun hn => hne (BitVec.eq_of_toNat_eq hn))

/-- What an address reads as depends on memory and the bus alone. -/
theorem peek_congr (s t : State) (a : Word) (hmem : t.mem = s.mem) (hbus : t.bus = s.bus) : t.peek a = s.peek a := by
  rw [State.peek, State.peek, hmem, hbus]

theorem writable_congr (s t : State) (a : Word) (hbus : t.bus = s.bus) : t.writable a = s.writable a := by
  rw [State.writable, State.writable, hbus]

theorem writeFails_congr (s t : State) (a : Word) (e : AccessError) (hmem : t.mem = s.mem) (hbus : t.bus = s.bus) :
    WriteFails t a e ↔ WriteFails s a e := by
  rw [WriteFails, WriteFails, hmem, hbus]

@[simp] theorem writable_put (s : State) (a b : Word) (v : Byte) : (s.put a v).writable b = s.writable b := rfl

theorem writeFails_put (s : State) (a b : Word) (v : Byte) (e : AccessError) :
    WriteFails (s.put a v) b e ↔ WriteFails s b e := by
  simp only [WriteFails, State.put]
  cases h : s.bus.isRam b with
  | true => simp [AddressSpace.write_of_isRam s.bus _ b _ h]
  | false =>
    refine forall_congr' fun w => ?_
    unfold AddressSpace.write Component.write
    split
    · rename_i c hc
      by_cases hin : c.contains b = true
      · cases hk : c.kind with
        | ram =>
          rw [(AddressSpace.isRam_iff s.bus b).2 ⟨c, hc, hin, hk⟩] at h
          cases h
        | rom => simp [hin]
      · simp [hin]
    · rfl

theorem afterStores_nil (s : State) (a : Word) : afterStores s [] a = s.peek a := rfl

/-- One stored byte. -/
theorem peek_put_afterStores (s : State) (a b : Word) (v : Byte) (h : s.writable a = true) :
    (s.put a v).peek b = afterStores s [(a, v)] b := by
  rw [peek_put s a b v h]
  by_cases hb : b = a
  · simp [afterStores, List.lookup, hb]
  · simp [afterStores, List.lookup, hb, beq_eq_false_iff_ne.2 hb]

/-- Two stored bytes at different addresses. -/
theorem peek_put_put_afterStores (s : State) (a a' b : Word) (v w : Byte) (h : s.writable a = true)
    (h' : s.writable a' = true) (hne : a ≠ a') :
    ((s.put a v).put a' w).peek b = afterStores s [(a, v), (a', w)] b := by
  rw [peek_put (s.put a v) a' b w h', peek_put s a b v h]
  by_cases hb : b = a
  · subst hb
    simp [afterStores, List.lookup, hne]
  · by_cases hb' : b = a'
    · simp [afterStores, List.lookup, hb', beq_eq_false_iff_ne.2 (Ne.symm hne)]
    · simp [afterStores, List.lookup, hb, hb', beq_eq_false_iff_ne.2 hb, beq_eq_false_iff_ne.2 hb']

/-! ## Words and the stack -/

theorem loadWord_ok (s : State) (a : Word) (lo hi : Byte) (k : Word → Result) (hlo : s.peek a = .ok lo)
    (hhi : s.peek (a + 1#16) = .ok hi) : loadWord s a k = k (pair hi lo) := by
  simp [loadWord, loadByte, hlo, hhi]

theorem loadWord_next (s t : State) (a : Word) (k : Word → Result) :
    loadWord s a k = .next t ↔
      ∃ lo hi, s.peek a = .ok lo ∧ s.peek (a + 1#16) = .ok hi ∧ k (pair hi lo) = .next t := by
  simp only [loadWord, loadByte_next]
  exact exists_congr fun lo => ⟨fun ⟨h, hi, hh, hk⟩ => ⟨hi, h, hh, hk⟩, fun ⟨hi, h, hh, hk⟩ => ⟨h, hi, hh, hk⟩⟩

theorem storeWord_ok (s : State) (a v : Word) (k : State → Result) (hlo : s.writable a = true)
    (hhi : s.writable (a + 1#16) = true) :
    storeWord s a v k = k ((s.put a (loByte v)).put (a + 1#16) (hiByte v)) := by
  rw [storeWord, storeByte_ok s a _ _ hlo, storeByte_ok (s.put a (loByte v)) _ _ _ hhi]

theorem storeWord_next (s t : State) (a v : Word) (k : State → Result) :
    storeWord s a v k = .next t ↔ s.writable a = true ∧ s.writable (a + 1#16) = true ∧
      k ((s.put a (loByte v)).put (a + 1#16) (hiByte v)) = .next t := by
  simp only [storeWord, storeByte_next, writable_put]

theorem sub_one_sub_one (a : Word) : a - 1#16 - 1#16 = a - 2#16 := by bv_omega

theorem sub_one_ne_sub_two (a : Word) : a - 1#16 ≠ a - 2#16 := by bv_omega

theorem add_one_add_one (a : Word) : a + 1#16 + 1#16 = a + 2#16 := by bv_omega

theorem ne_add_one (a : Word) : a ≠ a + 1#16 := by bv_omega

theorem push16_next (s t : State) (v : Word) (k : State → Result) :
    push16 s v k = .next t ↔ s.writable (s.sp - 1#16) = true ∧ s.writable (s.sp - 2#16) = true ∧
      k (s.pushed v) = .next t := by
  simp only [push16, storeByte_next, State.put, sub_one_sub_one, State.pushed]
  rfl

theorem push16_ok (s : State) (v : Word) (k : State → Result) (h1 : s.writable (s.sp - 1#16) = true)
    (h2 : s.writable (s.sp - 2#16) = true) : push16 s v k = k (s.pushed v) := by
  simp only [push16, sub_one_sub_one, storeByte, AddressSpace.write_of_isRam s.bus _ _ _ h1,
    AddressSpace.write_of_isRam s.bus _ _ _ h2]
  rfl

theorem push16_error_high (s : State) (v : Word) (e : AccessError) (k : State → Result)
    (he : WriteFails s (s.sp - 1#16) e) : push16 s v k = .fault (e.toFault { s with sp := s.sp - 1#16 }) := by
  have he' : s.bus.write s.mem (s.sp - 1#16) (hiByte v) = .error e := he _
  simp only [push16, storeByte, he']

theorem push16_error_low (s : State) (v : Word) (e : AccessError) (k : State → Result)
    (h1 : s.writable (s.sp - 1#16) = true) (he : WriteFails s (s.sp - 2#16) e) :
    push16 s v k = .fault (e.toFault { s.put (s.sp - 1#16) (hiByte v) with sp := s.sp - 2#16 }) := by
  have he' : s.bus.write (s.mem.set (s.sp - 1#16).toNat (hiByte v)) (s.sp - 2#16) (loByte v) = .error e :=
    (writeFails_put s (s.sp - 1#16) (s.sp - 2#16) (hiByte v) e).2 he _
  simp only [push16, storeByte, AddressSpace.write_of_isRam s.bus _ _ _ h1, sub_one_sub_one, he', State.put]

theorem peek_pushed (s : State) (v a : Word) (h1 : s.writable (s.sp - 1#16) = true)
    (h2 : s.writable (s.sp - 2#16) = true) :
    (s.pushed v).peek a = afterStores s [(s.sp - 1#16, hiByte v), (s.sp - 2#16, loByte v)] a :=
  peek_put_put_afterStores s _ _ a _ _ h1 h2 (sub_one_ne_sub_two s.sp)

/-- What an address reads as in a state whose memory is that after a push. -/
theorem peek_of_pushed (s t : State) (v a : Word) (hmem : t.mem = (s.pushed v).mem) (hbus : t.bus = s.bus)
    (h1 : s.writable (s.sp - 1#16) = true) (h2 : s.writable (s.sp - 2#16) = true) :
    t.peek a = afterStores s [(s.sp - 1#16, hiByte v), (s.sp - 2#16, loByte v)] a :=
  (peek_congr (s.pushed v) t a hmem hbus).trans (peek_pushed s v a h1 h2)

theorem pop16_next (s t : State) (k : Word → State → Result) :
    pop16 s k = .next t ↔ ∃ lo hi, s.peek s.sp = .ok lo ∧ s.peek (s.sp + 1#16) = .ok hi ∧
      k (pair hi lo) { s with sp := s.sp + 2#16 } = .next t := by
  simp only [pop16, loadByte_next, add_one_add_one]
  exact exists_congr fun lo => ⟨fun ⟨h, hi, hh, hk⟩ => ⟨hi, h, hh, hk⟩, fun ⟨hi, h, hh, hk⟩ => ⟨h, hi, hh, hk⟩⟩

theorem pop16_ok (s : State) (lo hi : Byte) (k : Word → State → Result) (hlo : s.peek s.sp = .ok lo)
    (hhi : s.peek (s.sp + 1#16) = .ok hi) : pop16 s k = k (pair hi lo) { s with sp := s.sp + 2#16 } := by
  have hhi' : s.bus.read s.mem (s.sp + 1#16) = .ok hi := hhi
  have hlo' : s.bus.read s.mem s.sp = .ok lo := hlo
  simp only [pop16, loadByte, State.peek, hlo', hhi', add_one_add_one]

theorem pop16_error_low (s : State) (e : AccessError) (k : Word → State → Result) (he : s.peek s.sp = .error e) :
    pop16 s k = .fault (e.toFault s) :=
  loadByte_error s _ e _ he

theorem pop16_error_high (s : State) (lo : Byte) (e : AccessError) (k : Word → State → Result)
    (hlo : s.peek s.sp = .ok lo) (he : s.peek (s.sp + 1#16) = .error e) :
    pop16 s k = .fault (e.toFault { s with sp := s.sp + 1#16 }) := by
  have hlo' : s.bus.read s.mem s.sp = .ok lo := hlo
  have he' : s.bus.read s.mem (s.sp + 1#16) = .error e := he
  simp only [pop16, loadByte, State.peek, hlo', he']

theorem loadWord_error_low (s : State) (a : Word) (e : AccessError) (k : Word → Result) (he : s.peek a = .error e) :
    loadWord s a k = .fault (e.toFault s) :=
  loadByte_error s a e _ he

theorem loadWord_error_high (s : State) (a : Word) (lo : Byte) (e : AccessError) (k : Word → Result)
    (hlo : s.peek a = .ok lo) (he : s.peek (a + 1#16) = .error e) : loadWord s a k = .fault (e.toFault s) :=
  (loadByte_ok s a lo _ hlo).trans (loadByte_error s _ e _ he)

theorem storeWord_error_low (s : State) (a v : Word) (e : AccessError) (k : State → Result) (he : WriteFails s a e) :
    storeWord s a v k = .fault (e.toFault s) :=
  storeByte_error s a _ e _ he

theorem storeWord_error_high (s : State) (a v : Word) (e : AccessError) (k : State → Result)
    (hlo : s.writable a = true) (he : WriteFails s (a + 1#16) e) :
    storeWord s a v k = .fault (e.toFault (s.put a (loByte v))) :=
  (storeByte_ok s a _ _ hlo).trans
    (storeByte_error (s.put a (loByte v)) _ _ e _ ((writeFails_put s a (a + 1#16) _ e).2 he))

/-! ## Read-modify-write -/

theorem modifyByte_ok (s : State) (a : Word) (v : Byte) (f : Byte → Byte) (k : Byte → State → Result)
    (hv : s.peek a = .ok v) (hw : s.writable a = true) : modifyByte s a f k = k (f v) (s.put a (f v)) := by
  rw [modifyByte, loadByte_ok s a v _ hv, storeByte_ok s a _ _ hw]

theorem modifyByte_next (s t : State) (a : Word) (f : Byte → Byte) (k : Byte → State → Result) :
    modifyByte s a f k = .next t ↔
      ∃ v, s.peek a = .ok v ∧ s.writable a = true ∧ k (f v) (s.put a (f v)) = .next t := by
  simp only [modifyByte, loadByte_next, storeByte_next]

theorem modifyFlags_ok (s : State) (a : Word) (v : Byte) (f : Byte → Flags → Byte × Flags)
    (k : Byte → State → Result) (hv : s.peek a = .ok v) (hw : s.writable a = true) :
    modifyFlags s a f k = k (f v s.flags).1 ((s.put a (f v s.flags).1).setFlags (f v s.flags).2) := by
  rw [modifyFlags, loadByte_ok s a v _ hv, storeByte_ok s a _ _ hw]

theorem modifyFlags_next (s t : State) (a : Word) (f : Byte → Flags → Byte × Flags) (k : Byte → State → Result) :
    modifyFlags s a f k = .next t ↔ ∃ v, s.peek a = .ok v ∧ s.writable a = true ∧
      k (f v s.flags).1 ((s.put a (f v s.flags).1).setFlags (f v s.flags).2) = .next t := by
  simp only [modifyFlags, loadByte_next, storeByte_next]

/-! ## Draws and repeats -/

/-- The last iteration of a block instruction. -/
@[simp] theorem repeatBlock_false (s : State) : repeatBlock false s = s.tick 16 := rfl

/-- An iteration that repeats: PC back at the ED byte, F5 and F3 drawn. -/
theorem repeatBlock_true (s : State) :
    repeatBlock true s = (({ s with draws := s.draws + 2, pc := s.pc - 2#16 } : State).setFlags
      { s.flags with f5 := Config.draw1 s.draws, f3 := Config.draw1 (s.draws + 1) }).tick 21 := rfl

@[simp] theorem repeatBlockIo_false (s : State) : repeatBlockIo false s = s.tick 16 := rfl

/-- A block I/O iteration that repeats draws H and PV as well. -/
theorem repeatBlockIo_true (s : State) :
    repeatBlockIo true s = repeatBlock true (({ s with draws := s.draws + 2 } : State).setFlags
      { s.flags with h := Config.draw1 s.draws, pv := Config.draw1 (s.draws + 1) }) := rfl

/-! ## Interrupts -/

/-- Without a remembered LD A,I or LD A,R the acceptance draws nothing (R913). -/
theorem drawAirPv_of_clear (s : State) (h : s.ldAir = false) : drawAirPv s = s := by
  simp [drawAirPv, h]

/-- With one, PV alone is drawn. -/
theorem drawAirPv_of_set (s : State) (h : s.ldAir = true) :
    drawAirPv s = ({ s with draws := s.draws + 1 } : State).setFlags { s.flags with pv := Config.draw1 s.draws } := by
  show (if s.ldAir = true then _ else _) = _
  rw [if_pos h]
  rfl

/-- Taking an interrupt whose two stack bytes lie in RAM: what is left is finding the handler's address. -/
theorem takeInterrupt_ok (s : State) (keep : Bool) (n : Nat) (target : State → (Word → Result) → Result)
    (h1 : s.writable (s.sp - 1#16) = true) (h2 : s.writable (s.sp - 2#16) = true) :
    takeInterrupt s keep n target =
      target ((s.enterInterrupt keep).pushed s.pc) fun v =>
        .next ({ (s.enterInterrupt keep).pushed s.pc with pc := v }.tick n) :=
  push16_ok (s.enterInterrupt keep) s.pc _ h1 h2

theorem takeInterrupt_error_high (s : State) (keep : Bool) (n : Nat) (target : State → (Word → Result) → Result)
    (e : AccessError) (he : WriteFails s (s.sp - 1#16) e) :
    takeInterrupt s keep n target = .fault (e.toFault { s.enterInterrupt keep with sp := s.sp - 1#16 }) :=
  push16_error_high (s.enterInterrupt keep) s.pc e _ he

theorem takeInterrupt_error_low (s : State) (keep : Bool) (n : Nat) (target : State → (Word → Result) → Result)
    (e : AccessError) (h1 : s.writable (s.sp - 1#16) = true) (he : WriteFails s (s.sp - 2#16) e) :
    takeInterrupt s keep n target =
      .fault (e.toFault { (s.enterInterrupt keep).put (s.sp - 1#16) (hiByte s.pc) with sp := s.sp - 2#16 }) :=
  push16_error_low (s.enterInterrupt keep) s.pc e _ h1 he

/-- Every next state of an acceptance. -/
theorem takeInterrupt_next (s t : State) (keep : Bool) (n : Nat) (target : State → (Word → Result) → Result) :
    takeInterrupt s keep n target = .next t ↔
      s.writable (s.sp - 1#16) = true ∧ s.writable (s.sp - 2#16) = true ∧
        (target ((s.enterInterrupt keep).pushed s.pc) fun v =>
          .next ({ (s.enterInterrupt keep).pushed s.pc with pc := v }.tick n)) = .next t :=
  push16_next (s.enterInterrupt keep) t s.pc _

/-- The kind of a step (R910): NMI first, then INT, then the halted state. -/
theorem stepKind_nmi (input : HostInput) (s : State) :
    stepKind input s = .nmi ↔ s.nmiPending = true ∧ s.intBlock ≠ .all := by
  unfold stepKind
  split
  · simp_all
  · split
    · simp_all
    · split <;> simp_all

theorem stepKind_interrupt (input : HostInput) (s : State) (v : Byte) :
    stepKind input s = .interrupt v ↔ ¬(s.nmiPending = true ∧ s.intBlock ≠ .all) ∧ input.intLine = true ∧
      s.iff1 = true ∧ s.intBlock = .none ∧ input.busByte = v := by
  unfold stepKind
  split
  · simp_all
  · split
    · simp_all
    · split <;> simp_all

theorem stepKind_instruction (input : HostInput) (s : State) :
    stepKind input s = .instruction ↔ ¬(s.nmiPending = true ∧ s.intBlock ≠ .all) ∧
      ¬(input.intLine = true ∧ s.iff1 = true ∧ s.intBlock = .none) ∧ s.halted = false := by
  unfold stepKind
  split
  · simp_all
  · split
    · simp_all
    · split <;> simp_all

end Sys2Proof.Machine
end

