-- ==== Sys2Proof/Laws/Fetch.lean ====
section
/-! SUPPORT. What fetching a byte, some operand bytes or an opcode can do: the byte and the state it goes on with, or the fault. -/

namespace Sys2Proof.Machine

/-- The state after an opcode fetch of this byte (30_encoding.md R303). -/
def State.afterOpcode (s : State) (b : Byte) : State := { s with pc := s.pc + 1#16, r := refresh s.r, latch := b }

/-- The state after `n` operand bytes (R304). -/
def State.skip (s : State) (n : Nat) : State := { s with pc := s.pc + BitVec.ofNat 16 n }

theorem fetchOpcode_ok (s : State) (b : Byte) (h : s.peek s.pc = .ok b) :
    fetchOpcode s = .ok (b, s.afterOpcode b) := by
  simp only [fetchOpcode, h, State.afterOpcode]

theorem fetchOpcode_error (s : State) (e : AccessError) (h : s.peek s.pc = .error e) :
    fetchOpcode s = .error (e.toFault s) := by
  simp only [fetchOpcode, h]

theorem fetchByte_ok (s : State) (b : Byte) (h : s.peek s.pc = .ok b) : fetchByte s = .ok (b, s.skip 1) := by
  simp only [fetchByte, h, State.skip]

theorem fetchByte_error (s : State) (e : AccessError) (h : s.peek s.pc = .error e) :
    fetchByte s = .error (e.toFault s) := by
  simp only [fetchByte, h]

@[simp] theorem peek_afterOpcode (s : State) (a : Word) (b : Byte) : (s.afterOpcode b).peek a = s.peek a := rfl
@[simp] theorem peek_skip (s : State) (a : Word) (n : Nat) : (s.skip n).peek a = s.peek a := rfl
@[simp] theorem afterOpcode_pc (s : State) (b : Byte) : (s.afterOpcode b).pc = s.pc + 1#16 := rfl
@[simp] theorem skip_pc (s : State) (n : Nat) : (s.skip n).pc = s.pc + BitVec.ofNat 16 n := rfl
@[simp] theorem skip_zero (s : State) : s.skip 0 = s := by simp [State.skip]
@[simp] theorem afterOpcode_params (s : State) (b : Byte) : (s.afterOpcode b).params = s.params := rfl
@[simp] theorem skip_params (s : State) (n : Nat) : (s.skip n).params = s.params := rfl

theorem skip_skip (s : State) (m n : Nat) : (s.skip m).skip n = s.skip (m + n) := by
  simp [State.skip, BitVec.ofNat_add, BitVec.add_assoc]

/-- The operand bytes that stand at PC are fetched in order. -/
theorem fetchBytes_ok (bytes : List Byte) (s : State) (h : BytesAt s s.pc bytes) :
    fetchBytes bytes.length s = .ok (bytes, s.skip bytes.length) := by
  induction bytes generalizing s with
  | nil => simp [fetchBytes]
  | cons b rest ih =>
    have hb : s.peek s.pc = .ok b := by
      have h0 : Reads s (s.pc + 0#16) b := h 0 (by simp)
      rwa [BitVec.add_zero] at h0
    have hrest : BytesAt (s.skip 1) (s.skip 1).pc rest := by
      intro k hk
      have := h (k + 1) (by simpa using hk)
      have ha : s.pc + BitVec.ofNat 16 (k + 1) = s.pc + 1#16 + BitVec.ofNat 16 k := by
        rw [Nat.add_comm, BitVec.ofNat_add, BitVec.add_assoc]
      simpa [Reads, ha] using this
    show fetchBytes (rest.length + 1) s = .ok (b :: rest, s.skip (rest.length + 1))
    simp only [fetchBytes, fetchByte_ok s b hb, bind, Except.bind, ih _ hrest, pure, Except.pure, skip_skip,
      Nat.add_comm 1]

end Sys2Proof.Machine
end

