-- ==== Sys2Proof/Laws/Flags.lean ====
section
/-! SUPPORT. The flag register as its eight fields, and each flag computation of Machine/Flags.lean by the rule it follows. -/

namespace Sys2Proof.Machine

/-- A fact about every byte, from its two hexadecimal digits. -/
theorem byte_of_digits (p : Byte → Prop) (h : ∀ hi lo : Fin 16, p (BitVec.ofNat 8 (16 * hi.val + lo.val))) (v : Byte) :
    p v := by
  have hv := h ⟨v.toNat / 16, by omega⟩ ⟨v.toNat % 16, by omega⟩
  simpa [Nat.div_add_mod] using hv

/-- Reading F as fields and writing them back gives F. -/
@[simp] theorem Flags.toByte_ofByte (f : Byte) : (Flags.ofByte f).toByte = f := by
  revert f
  apply byte_of_digits
  decide

/-- Writing the fields of F and reading them back gives the fields. -/
@[simp] theorem Flags.ofByte_toByte (fl : Flags) : Flags.ofByte fl.toByte = fl := by
  obtain ⟨s, z, f5, h, f3, pv, n, c⟩ := fl
  cases s <;> cases z <;> cases f5 <;> cases h <;> cases f3 <;> cases pv <;> cases n <;> cases c <;> rfl

@[simp] theorem State.flags_setFlags (s : State) (fl : Flags) : (s.setFlags fl).flags = fl := Flags.ofByte_toByte fl

/-! ## Bits as arithmetic -/

theorem getLsbD_eq_decide {w : Nat} (v : BitVec w) (k : Nat) : v.getLsbD k = decide (v.toNat / 2 ^ k % 2 = 1) := by
  rw [BitVec.getLsbD, Nat.testBit_eq_decide_div_mod_eq]

theorem bit7_eq (v : Byte) : v.getLsbD 7 = decide (128 ≤ v.toNat) := by
  rw [getLsbD_eq_decide]
  congr 1
  simp only [eq_iff_iff]
  omega

theorem bit5_eq (v : Byte) : v.getLsbD 5 = decide (v.toNat / 32 % 2 = 1) := getLsbD_eq_decide v 5
theorem bit3_eq (v : Byte) : v.getLsbD 3 = decide (v.toNat / 8 % 2 = 1) := getLsbD_eq_decide v 3
theorem bit13_eq (v : Word) : v.getLsbD 13 = decide (v.toNat / 0x2000 % 2 = 1) := getLsbD_eq_decide v 13
theorem bit11_eq (v : Word) : v.getLsbD 11 = decide (v.toNat / 0x800 % 2 = 1) := getLsbD_eq_decide v 11

theorem bit15_eq (v : Word) : v.getLsbD 15 = decide (0x8000 ≤ v.toNat) := by
  rw [getLsbD_eq_decide]
  congr 1
  simp only [eq_iff_iff]
  omega

theorem beq_zero_eq {w : Nat} (v : BitVec w) : (v == 0#w) = decide (v.toNat = 0) := by
  by_cases h : v = 0#w
  · simp [h]
  · have : v.toNat ≠ 0 := fun h0 => h (BitVec.eq_of_toNat_eq (by simpa using h0))
    simp [h, this]

/-- Parity is an even number of set bits. -/
theorem parity_eq_evenOnes (v : Byte) : parity v = evenOnes v := by
  revert v
  apply byte_of_digits
  decide

/-- S, Z, F5 and F3 of a byte. -/
theorem sz53_eq (v : Byte) (fl : Flags) : sz53 v fl = resultFlags v fl := by
  simp only [sz53, resultFlags, bit7_eq, bit5_eq, bit3_eq, beq_zero_eq]

theorem sz53p_eq (v : Byte) (fl : Flags) : sz53p v fl = { resultFlags v fl with pv := evenOnes v } := by
  simp [sz53p, sz53_eq, parity_eq_evenOnes]

/-! ## 8-bit arithmetic and logic -/

theorem beq_decide (p q : Prop) [Decidable p] [Decidable q] : (decide p == decide q) = decide (p ↔ q) := by
  by_cases p <;> by_cases q <;> simp [*]

theorem bne_decide (p q : Prop) [Decidable p] [Decidable q] : (decide p != decide q) = decide (¬(p ↔ q)) := by
  by_cases p <;> by_cases q <;> simp [*]

theorem addOverflow8 (a b res : Byte) :
    ((a.getLsbD 7 == b.getLsbD 7) && (res.getLsbD 7 != a.getLsbD 7)) = addOverflow 128 a.toNat b.toNat res.toNat := by
  simp only [bit7_eq, addOverflow, beq_decide, bne_decide, ← Bool.decide_and]
  congr 1
  simp only [eq_iff_iff]
  omega

theorem subOverflow8 (a b res : Byte) :
    ((a.getLsbD 7 != b.getLsbD 7) && (res.getLsbD 7 != a.getLsbD 7)) = subOverflow 128 a.toNat b.toNat res.toNat := by
  simp only [bit7_eq, subOverflow, bne_decide, ← Bool.decide_and]
  congr 1
  simp only [eq_iff_iff]
  omega

theorem addOverflow16 (a b res : Word) :
    ((a.getLsbD 15 == b.getLsbD 15) && (res.getLsbD 15 != a.getLsbD 15))
      = addOverflow 0x8000 a.toNat b.toNat res.toNat := by
  simp only [bit15_eq, addOverflow, beq_decide, bne_decide, ← Bool.decide_and]
  congr 1
  simp only [eq_iff_iff]
  omega

theorem subOverflow16 (a b res : Word) :
    ((a.getLsbD 15 != b.getLsbD 15) && (res.getLsbD 15 != a.getLsbD 15))
      = subOverflow 0x8000 a.toNat b.toNat res.toNat := by
  simp only [bit15_eq, subOverflow, bne_decide, ← Bool.decide_and]
  congr 1
  simp only [eq_iff_iff]
  omega

theorem add8_rule (a b : Byte) (c : Bool) : Add8Rule a b c (add8 a b c).1 (add8 a b c).2 := by
  refine ⟨by simp [add8], ?_⟩
  simp only [add8, resultFlags, addOverflow8]
  simp only [bit7_eq, bit5_eq, bit3_eq, beq_zero_eq]

theorem sub8_rule (a b : Byte) (c : Bool) : Sub8Rule a b c (sub8 a b c).1 (sub8 a b c).2 := by
  have hc : c.toNat ≤ 1 := by cases c <;> decide
  have ha := a.isLt
  have hb := b.isLt
  refine ⟨?_, ?_⟩
  · simp only [sub8, BitVec.toNat_ofInt]
    omega
  · simp only [sub8, resultFlags, subOverflow8]
    simp only [bit7_eq, bit5_eq, bit3_eq, beq_zero_eq, Flags.mk.injEq, true_and, decide_eq_decide]
    omega

theorem logic_rule (res : Byte) (isAnd : Bool) : LogicRule isAnd res res (logicFlags res isAnd) := by
  refine ⟨rfl, ?_⟩
  simp only [logicFlags, resultFlags, parity_eq_evenOnes, bit7_eq, bit5_eq, bit3_eq, beq_zero_eq]

/-- Each accumulator operation follows its rule. -/
theorem alu_rule (op : AluOp) (a v : Byte) (fl : Flags) :
    AluRule op a v fl.c (alu op a v fl).1 (alu op a v fl).2 := by
  cases op with
  | add => exact add8_rule a v false
  | adc => exact add8_rule a v fl.c
  | sub => exact sub8_rule a v false
  | sbc => exact sub8_rule a v fl.c
  | and => exact logic_rule _ true
  | xor => exact logic_rule _ false
  | or => exact logic_rule _ false
  | cp => exact ⟨rfl, _, _, sub8_rule a v false, rfl⟩

theorem beq_lit_eq (v : Byte) (n : Nat) (hn : n < 256) : (v == BitVec.ofNat 8 n) = decide (v.toNat = n) := by
  by_cases h : v = BitVec.ofNat 8 n
  · subst h
    simp [Nat.mod_eq_of_lt hn]
  · have : v.toNat ≠ n := fun h0 => h (by rw [← h0]; simp)
    simp [h, this]

theorem inc8_rule (v : Byte) (fl : Flags) : Inc8Rule v fl (inc8 v fl).1 (inc8 v fl).2 := by
  refine ⟨by simp [inc8], ?_⟩
  simp only [inc8, sz53_eq, resultFlags]
  rw [beq_lit_eq v 0x7F (by omega), beq_eq_decide]

theorem dec8_rule (v : Byte) (fl : Flags) : Dec8Rule v fl (dec8 v fl).1 (dec8 v fl).2 := by
  refine ⟨?_, ?_⟩
  · simp only [dec8, BitVec.toNat_sub, BitVec.toNat_ofNat]
    omega
  simp only [dec8, sz53_eq, resultFlags]
  rw [beq_lit_eq v 0x80 (by omega), beq_eq_decide]

theorem daa_rule (a : Byte) (fl : Flags) : DaaRule a fl (daa a fl).1 (daa a fl).2 := by
  have ha := a.isLt
  have hcorr : ∀ p q : Bool, ((if p then 0x06#8 else 0#8) ||| (if q then 0x60#8 else 0#8) : Byte).toNat
      = (if p then 0x06 else 0) + (if q then 0x60 else 0) := by decide
  refine ⟨?_, ?_⟩
  · simp only [daa]
    split
    · rw [BitVec.toNat_sub, hcorr]
      congr 1
      split <;> split <;> omega
    · rw [BitVec.toNat_add, hcorr]
  · simp only [daa, sz53p_eq, resultFlags]

/-! ## 16-bit arithmetic -/

theorem add16_rule (a b : Word) (fl : Flags) : Add16Rule a b fl (add16 a b fl).1 (add16 a b fl).2 := by
  refine ⟨by simp [add16], ?_⟩
  simp only [add16, resultFlags16, bit13_eq, bit11_eq]

theorem adc16_rule (a b : Word) (c : Bool) : Adc16Rule a b c (adc16 a b c).1 (adc16 a b c).2 := by
  refine ⟨by simp [adc16], ?_⟩
  simp only [adc16, resultFlags16, addOverflow16]
  simp only [bit15_eq, bit13_eq, bit11_eq, beq_zero_eq]

theorem sbc16_rule (a b : Word) (c : Bool) : Sbc16Rule a b c (sbc16 a b c).1 (sbc16 a b c).2 := by
  have hc : c.toNat ≤ 1 := by cases c <;> decide
  have ha := a.isLt
  have hb := b.isLt
  refine ⟨?_, ?_⟩
  · simp only [sbc16, BitVec.toNat_ofInt]
    omega
  · simp only [sbc16, resultFlags16, subOverflow16]
    simp only [bit15_eq, bit13_eq, bit11_eq, beq_zero_eq, Flags.mk.injEq, true_and, decide_eq_decide]
    omega

/-! ## Rotates, shifts and bits -/

theorem toNat_rotResult (op : RotOp) (v : Byte) (c : Bool) : (rotResult op v c).toNat = rotValue op v c := by
  revert v
  cases op <;> cases c <;> apply byte_of_digits <;> decide

theorem rotCarry_eq (op : RotOp) (v : Byte) : rotCarry op v = rotOut op v := by
  have h0 : v.getLsbD 0 = decide (v.toNat % 2 = 1) := by simpa using getLsbD_eq_decide v 0
  cases op <;> simp only [rotCarry, rotOut, bit7_eq, h0]

theorem rot_rule (op : RotOp) (v : Byte) (fl : Flags) : RotRule op v fl.c (rot op v fl).1 (rot op v fl).2 := by
  refine ⟨toNat_rotResult op v fl.c, ?_⟩
  simp only [rot, sz53p_eq, resultFlags, rotCarry_eq]

theorem rotA_rule (op : RotOp) (a : Byte) (fl : Flags) : RotARule op a fl (rotA op a fl).1 (rotA op a fl).2 := by
  refine ⟨toNat_rotResult op a fl.c, ?_⟩
  simp only [rotA, resultFlags, rotCarry_eq, bit5_eq, bit3_eq]

theorem inputFlags_rule (v : Byte) (fl : Flags) : ByteFlagsRule v fl (inputFlags v fl) := by
  simp only [ByteFlagsRule, inputFlags, sz53p_eq, resultFlags]

theorem bitTest_rule (bit : Fin 8) (v xy : Byte) (fl : Flags) : BitRule bit v xy fl (bitTest bit v xy fl) := by
  simp only [BitRule, bitTest, Flags.mk.injEq, and_true]
  by_cases h : bit.val = 7
  · simp [h]
  · simp [h]

theorem resBit_rule (bit : Fin 8) (v : Byte) : BitChangeRule bit false v (resBit bit v) := by
  intro k
  fin_cases bit <;> fin_cases k <;> simp [resBit]

theorem setBit_rule (bit : Fin 8) (v : Byte) : BitChangeRule bit true v (setBit bit v) := by
  intro k
  fin_cases bit <;> fin_cases k <;> simp [setBit]

/-! ## Block instructions -/

theorem bne_zero_eq {w : Nat} (v : BitVec w) : (v != 0#w) = decide (v.toNat ≠ 0) := by
  simp only [bne, beq_zero_eq, decide_not]

theorem blockLoadFlags_rule (v a : Byte) (count : Word) (fl : Flags) :
    BlockLoadRule v a count fl (blockLoadFlags v a count fl) := by
  simp only [BlockLoadRule, blockLoadFlags, bne_zero_eq, getLsbD_eq_decide, BitVec.toNat_add, Flags.mk.injEq, true_and,
    and_true, decide_eq_decide]
  omega

theorem blockCompareFlags_rule (a v : Byte) (count : Word) (fl : Flags) :
    BlockCompareRule a v count fl (blockCompareFlags a v count fl) := by
  have ha := a.isLt
  have hv := v.isLt
  have hz : (a - v == 0#8) = decide (a = v) := by
    rw [beq_zero_eq]
    congr 1
    simp only [eq_iff_iff, BitVec.toNat_sub]
    exact ⟨fun h => BitVec.eq_of_toNat_eq (by omega), fun h => by subst h; omega⟩
  have hn : (a - v - bitByte (compareHalf a v)).toNat
      = ((a.toNat + 256 - v.toNat) % 256 + 256 - (compareHalf a v).toNat) % 256 := by
    cases compareHalf a v <;> simp only [bitByte, BitVec.toNat_sub, BitVec.toNat_ofNat, if_true, Bool.toNat] <;>
      simp <;> omega
  have hd : (a - v).toNat = (a.toNat + 256 - v.toNat) % 256 := by
    rw [BitVec.toNat_sub]
    omega
  have hb : ∀ d w : Nat, w < 2 → ((d + 256 - w) % 256 / 8 % 2 = (d + 256 - w) / 8 % 2) ∧
      ((d + 256 - w) % 256 / 2 % 2 = (d + 256 - w) / 2 % 2) := fun d w hw => by omega
  have hw : (compareHalf a v).toNat < 2 := by cases compareHalf a v <;> decide
  simp only [BlockCompareRule, blockCompareFlags, hz, bne_zero_eq, bit7_eq, bit3_eq, getLsbD_eq_decide _ 1, hn, hd,
    pow_one, (hb _ _ hw).1, (hb _ _ hw).2]
  rfl

theorem blockIoFlags_rule (t b : Byte) (k : Nat) : BlockIoRule t b k (blockIoFlags t b k) := by
  simp only [BlockIoRule, blockIoFlags, resultFlags, parity_eq_evenOnes, bit7_eq, bit5_eq, bit3_eq, beq_zero_eq]

end Sys2Proof.Machine
end

