-- ==== Sys2Proof/Laws/PerInstr.lean ====
section
/-! SUPPORT. The round trip of the encoding, per instruction: what the encoder writes for a well-formed instruction, the decoder reads
back, with the same length. One lemma per constructor of `Instr`. -/

namespace Sys2Proof.Laws

/-- The bytes of a word, put together again. -/
theorem nnHi_append_nnLo (nn : Word) : nnHi nn ++ nnLo nn = nn := by
  ext k hk
  simp only [nnHi, nnLo, BitVec.getElem_append, BitVec.getElem_extractLsb']
  split
  · simp [BitVec.getLsbD_eq_getElem, hk]
  · rw [BitVec.getLsbD_eq_getElem (by omega)]
    congr 1
    omega

namespace RoundTrip

/-- Decoding the encoding of a well-formed instruction gives the instruction and its length. -/
def Statement (i : Instr) : Prop := i.wf = true → decode (encode i) = .ok (i, i.length)

/-- The second bytes of the row of undefined ED encodings decode to that row, by the two digits of the byte. -/
theorem edUndefined_decodes :
    ∀ hi lo : Fin 16, edUndefined (opByte (16 * hi.val + lo.val)) = true →
      decodeEd (opByte (16 * hi.val + lo.val)) [] = .ok (.nopEd (opByte (16 * hi.val + lo.val)), 2) := by
  decide

/-- A byte is its two digits. -/
theorem opByte_digits (op : Byte) : opByte (16 * (op.toNat / 16) + op.toNat % 16) = op := by
  rw [Nat.div_add_mod]
  simp [opByte]

theorem ldRpNn (rp : RegPair) (nn : Word) : Statement (.ldRpNn rp nn) := fun _ => by
  cases rp <;> exact congrArg (fun w => Except.ok (Instr.ldRpNn _ w, _)) (nnHi_append_nnLo nn)
theorem addHlRp (rp : RegPair) : Statement (.addHlRp rp) := fun _ => by
  cases rp <;> rfl
theorem ldAtNnHl (nn : Word) : Statement (.ldAtNnHl nn) := fun _ => by
  exact congrArg (fun w => Except.ok (Instr.ldAtNnHl w, _)) (nnHi_append_nnLo nn)
theorem ldAtNnA (nn : Word) : Statement (.ldAtNnA nn) := fun _ => by
  exact congrArg (fun w => Except.ok (Instr.ldAtNnA w, _)) (nnHi_append_nnLo nn)
theorem ldHlAtNn (nn : Word) : Statement (.ldHlAtNn nn) := fun _ => by
  exact congrArg (fun w => Except.ok (Instr.ldHlAtNn w, _)) (nnHi_append_nnLo nn)
theorem ldAAtNn (nn : Word) : Statement (.ldAAtNn nn) := fun _ => by
  exact congrArg (fun w => Except.ok (Instr.ldAAtNn w, _)) (nnHi_append_nnLo nn)
theorem incRp (rp : RegPair) : Statement (.incRp rp) := fun _ => by
  cases rp <;> rfl
theorem decRp (rp : RegPair) : Statement (.decRp rp) := fun _ => by
  cases rp <;> rfl
theorem incR (r : Reg8) : Statement (.incR r) := fun _ => by
  cases r <;> rfl
theorem decR (r : Reg8) : Statement (.decR r) := fun _ => by
  cases r <;> rfl
theorem ldRN (r : Reg8) (n : Byte) : Statement (.ldRN r n) := fun _ => by
  cases r <;> rfl
theorem ldAtHlN (n : Byte) : Statement (.ldAtHlN n) := fun _ => rfl
theorem djnzE (d : Byte) : Statement (.djnzE d) := fun _ => rfl
theorem jrE (d : Byte) : Statement (.jrE d) := fun _ => rfl
theorem jrCcE (cc : RelCond) (d : Byte) : Statement (.jrCcE cc d) := fun _ => by
  cases cc <;> rfl
theorem ldRS (r : Reg8) (src : Reg8) : Statement (.ldRS r src) := fun _ => by
  cases r <;> cases src <;> rfl
theorem ldRAtHl (r : Reg8) : Statement (.ldRAtHl r) := fun _ => by
  cases r <;> rfl
theorem ldAtHlS (src : Reg8) : Statement (.ldAtHlS src) := fun _ => by
  cases src <;> rfl
theorem addAS (src : Reg8) : Statement (.addAS src) := fun _ => by
  cases src <;> rfl
theorem addAN (n : Byte) : Statement (.addAN n) := fun _ => rfl
theorem adcAS (src : Reg8) : Statement (.adcAS src) := fun _ => by
  cases src <;> rfl
theorem adcAN (n : Byte) : Statement (.adcAN n) := fun _ => rfl
theorem subS (src : Reg8) : Statement (.subS src) := fun _ => by
  cases src <;> rfl
theorem subN (n : Byte) : Statement (.subN n) := fun _ => rfl
theorem sbcAS (src : Reg8) : Statement (.sbcAS src) := fun _ => by
  cases src <;> rfl
theorem sbcAN (n : Byte) : Statement (.sbcAN n) := fun _ => rfl
theorem andS (src : Reg8) : Statement (.andS src) := fun _ => by
  cases src <;> rfl
theorem andN (n : Byte) : Statement (.andN n) := fun _ => rfl
theorem xorS (src : Reg8) : Statement (.xorS src) := fun _ => by
  cases src <;> rfl
theorem xorN (n : Byte) : Statement (.xorN n) := fun _ => rfl
theorem orS (src : Reg8) : Statement (.orS src) := fun _ => by
  cases src <;> rfl
theorem orN (n : Byte) : Statement (.orN n) := fun _ => rfl
theorem cpS (src : Reg8) : Statement (.cpS src) := fun _ => by
  cases src <;> rfl
theorem cpN (n : Byte) : Statement (.cpN n) := fun _ => rfl
theorem retCc (cc : Cond) : Statement (.retCc cc) := fun _ => by
  cases cc <;> rfl
theorem popRp2 (rp : StackPair) : Statement (.popRp2 rp) := fun _ => by
  cases rp <;> rfl
theorem jpCcNn (cc : Cond) (nn : Word) : Statement (.jpCcNn cc nn) := fun _ => by
  cases cc <;> exact congrArg (fun w => Except.ok (Instr.jpCcNn _ w, _)) (nnHi_append_nnLo nn)
theorem jpNn (nn : Word) : Statement (.jpNn nn) := fun _ => by
  exact congrArg (fun w => Except.ok (Instr.jpNn w, _)) (nnHi_append_nnLo nn)
theorem outAtNA (n : Byte) : Statement (.outAtNA n) := fun _ => rfl
theorem inAAtN (n : Byte) : Statement (.inAAtN n) := fun _ => rfl
theorem callCcNn (cc : Cond) (nn : Word) : Statement (.callCcNn cc nn) := fun _ => by
  cases cc <;> exact congrArg (fun w => Except.ok (Instr.callCcNn _ w, _)) (nnHi_append_nnLo nn)
theorem pushRp2 (rp : StackPair) : Statement (.pushRp2 rp) := fun _ => by
  cases rp <;> rfl
theorem callNn (nn : Word) : Statement (.callNn nn) := fun _ => by
  exact congrArg (fun w => Except.ok (Instr.callNn w, _)) (nnHi_append_nnLo nn)
theorem rstP (t : Fin 8) : Statement (.rstP t) := fun _ => by
  fin_cases t <;> rfl
theorem rlcR (r : Reg8) : Statement (.rlcR r) := fun _ => by
  cases r <;> rfl
theorem rrcR (r : Reg8) : Statement (.rrcR r) := fun _ => by
  cases r <;> rfl
theorem rlR (r : Reg8) : Statement (.rlR r) := fun _ => by
  cases r <;> rfl
theorem rrR (r : Reg8) : Statement (.rrR r) := fun _ => by
  cases r <;> rfl
theorem slaR (r : Reg8) : Statement (.slaR r) := fun _ => by
  cases r <;> rfl
theorem sraR (r : Reg8) : Statement (.sraR r) := fun _ => by
  cases r <;> rfl
theorem sllR (r : Reg8) : Statement (.sllR r) := fun _ => by
  cases r <;> rfl
theorem srlR (r : Reg8) : Statement (.srlR r) := fun _ => by
  cases r <;> rfl
theorem bitBR (bit : Fin 8) (r : Reg8) : Statement (.bitBR bit r) := fun _ => by
  fin_cases bit <;> cases r <;> rfl
theorem bitBAtHl (bit : Fin 8) : Statement (.bitBAtHl bit) := fun _ => by
  fin_cases bit <;> rfl
theorem resBR (bit : Fin 8) (r : Reg8) : Statement (.resBR bit r) := fun _ => by
  fin_cases bit <;> cases r <;> rfl
theorem resBAtHl (bit : Fin 8) : Statement (.resBAtHl bit) := fun _ => by
  fin_cases bit <;> rfl
theorem setBR (bit : Fin 8) (r : Reg8) : Statement (.setBR bit r) := fun _ => by
  fin_cases bit <;> cases r <;> rfl
theorem setBAtHl (bit : Fin 8) : Statement (.setBAtHl bit) := fun _ => by
  fin_cases bit <;> rfl
theorem inRAtC (r : Reg8) : Statement (.inRAtC r) := fun _ => by
  cases r <;> rfl
theorem outAtCR (r : Reg8) : Statement (.outAtCR r) := fun _ => by
  cases r <;> rfl
theorem sbcHlRp (rp : RegPair) : Statement (.sbcHlRp rp) := fun _ => by
  cases rp <;> rfl
theorem adcHlRp (rp : RegPair) : Statement (.adcHlRp rp) := fun _ => by
  cases rp <;> rfl
theorem ldAtNnRp (nn : Word) (rp : RegPair) : Statement (.ldAtNnRp nn rp) := by
  cases rp <;> first
    | exact fun h => absurd h Bool.false_ne_true
    | exact fun _ => congrArg (fun w => Except.ok (Instr.ldAtNnRp w _, _)) (nnHi_append_nnLo nn)
theorem ldAtNnHlEd (nn : Word) : Statement (.ldAtNnHlEd nn) := fun _ => by
  exact congrArg (fun w => Except.ok (Instr.ldAtNnHlEd w, _)) (nnHi_append_nnLo nn)
theorem ldRpAtNn (rp : RegPair) (nn : Word) : Statement (.ldRpAtNn rp nn) := by
  cases rp <;> first
    | exact fun h => absurd h Bool.false_ne_true
    | exact fun _ => congrArg (fun w => Except.ok (Instr.ldRpAtNn _ w, _)) (nnHi_append_nnLo nn)
theorem ldHlAtNnEd (nn : Word) : Statement (.ldHlAtNnEd nn) := fun _ => by
  exact congrArg (fun w => Except.ok (Instr.ldHlAtNnEd w, _)) (nnHi_append_nnLo nn)
theorem negMirror (y : Fin 8) : Statement (.negMirror y) := fun h => by
  fin_cases y <;> first | rfl | exact absurd h Bool.false_ne_true
theorem retnMirror (y : Fin 8) : Statement (.retnMirror y) := fun h => by
  fin_cases y <;> first | rfl | exact absurd h Bool.false_ne_true
theorem im01 (y : Bool) : Statement (.im01 y) := fun _ => by
  cases y <;> rfl
theorem nopEd7 (y : Bool) : Statement (.nopEd7 y) := fun _ => by
  cases y <;> rfl
theorem nopEd (op : Byte) : Statement (.nopEd op) := by
  have h := edUndefined_decodes ⟨op.toNat / 16, by omega⟩ ⟨op.toNat % 16, by omega⟩
  simp only [opByte_digits] at h
  exact h
theorem addIxRp (rp : XPair) : Statement (.addIxRp rp) := fun _ => by
  cases rp <;> rfl
theorem ldIxNn (nn : Word) : Statement (.ldIxNn nn) := fun _ => by
  exact congrArg (fun w => Except.ok (Instr.ldIxNn w, _)) (nnHi_append_nnLo nn)
theorem ldAtNnIx (nn : Word) : Statement (.ldAtNnIx nn) := fun _ => by
  exact congrArg (fun w => Except.ok (Instr.ldAtNnIx w, _)) (nnHi_append_nnLo nn)
theorem ldIxAtNn (nn : Word) : Statement (.ldIxAtNn nn) := fun _ => by
  exact congrArg (fun w => Except.ok (Instr.ldIxAtNn w, _)) (nnHi_append_nnLo nn)
theorem incIxHalf (half : Half) : Statement (.incIxHalf half) := fun _ => by
  cases half <;> rfl
theorem decIxHalf (half : Half) : Statement (.decIxHalf half) := fun _ => by
  cases half <;> rfl
theorem ldIxHalfN (half : Half) (n : Byte) : Statement (.ldIxHalfN half n) := fun _ => by
  cases half <;> rfl
theorem incAtIxd (d : Byte) : Statement (.incAtIxd d) := fun _ => rfl
theorem decAtIxd (d : Byte) : Statement (.decAtIxd d) := fun _ => rfl
theorem ldAtIxdN (d : Byte) (n : Byte) : Statement (.ldAtIxdN d n) := fun _ => rfl
theorem ldRAtIxd (r : Reg8) (d : Byte) : Statement (.ldRAtIxd r d) := fun _ => by
  cases r <;> rfl
theorem ldAtIxdS (d : Byte) (src : Reg8) : Statement (.ldAtIxdS d src) := fun _ => by
  cases src <;> rfl
theorem ldRSIxHalf (r : RegX) (src : RegX) : Statement (.ldRSIxHalf r src) := fun h => by
  cases r <;> cases src <;> first | rfl | exact absurd h Bool.false_ne_true
theorem addAIxHalf (half : Half) : Statement (.addAIxHalf half) := fun _ => by
  cases half <;> rfl
theorem addAAtIxd (d : Byte) : Statement (.addAAtIxd d) := fun _ => rfl
theorem adcAIxHalf (half : Half) : Statement (.adcAIxHalf half) := fun _ => by
  cases half <;> rfl
theorem adcAAtIxd (d : Byte) : Statement (.adcAAtIxd d) := fun _ => rfl
theorem subIxHalf (half : Half) : Statement (.subIxHalf half) := fun _ => by
  cases half <;> rfl
theorem subAtIxd (d : Byte) : Statement (.subAtIxd d) := fun _ => rfl
theorem sbcAIxHalf (half : Half) : Statement (.sbcAIxHalf half) := fun _ => by
  cases half <;> rfl
theorem sbcAAtIxd (d : Byte) : Statement (.sbcAAtIxd d) := fun _ => rfl
theorem andIxHalf (half : Half) : Statement (.andIxHalf half) := fun _ => by
  cases half <;> rfl
theorem andAtIxd (d : Byte) : Statement (.andAtIxd d) := fun _ => rfl
theorem xorIxHalf (half : Half) : Statement (.xorIxHalf half) := fun _ => by
  cases half <;> rfl
theorem xorAtIxd (d : Byte) : Statement (.xorAtIxd d) := fun _ => rfl
theorem orIxHalf (half : Half) : Statement (.orIxHalf half) := fun _ => by
  cases half <;> rfl
theorem orAtIxd (d : Byte) : Statement (.orAtIxd d) := fun _ => rfl
theorem cpIxHalf (half : Half) : Statement (.cpIxHalf half) := fun _ => by
  cases half <;> rfl
theorem cpAtIxd (d : Byte) : Statement (.cpAtIxd d) := fun _ => rfl
theorem ignoredDd (next : ChainByte) : Statement (.ignoredDd next) := fun _ => by
  cases next <;> rfl
theorem addIyRp (rp : XPair) : Statement (.addIyRp rp) := fun _ => by
  cases rp <;> rfl
theorem ldIyNn (nn : Word) : Statement (.ldIyNn nn) := fun _ => by
  exact congrArg (fun w => Except.ok (Instr.ldIyNn w, _)) (nnHi_append_nnLo nn)
theorem ldAtNnIy (nn : Word) : Statement (.ldAtNnIy nn) := fun _ => by
  exact congrArg (fun w => Except.ok (Instr.ldAtNnIy w, _)) (nnHi_append_nnLo nn)
theorem ldIyAtNn (nn : Word) : Statement (.ldIyAtNn nn) := fun _ => by
  exact congrArg (fun w => Except.ok (Instr.ldIyAtNn w, _)) (nnHi_append_nnLo nn)
theorem incIyHalf (half : Half) : Statement (.incIyHalf half) := fun _ => by
  cases half <;> rfl
theorem decIyHalf (half : Half) : Statement (.decIyHalf half) := fun _ => by
  cases half <;> rfl
theorem ldIyHalfN (half : Half) (n : Byte) : Statement (.ldIyHalfN half n) := fun _ => by
  cases half <;> rfl
theorem incAtIyd (d : Byte) : Statement (.incAtIyd d) := fun _ => rfl
theorem decAtIyd (d : Byte) : Statement (.decAtIyd d) := fun _ => rfl
theorem ldAtIydN (d : Byte) (n : Byte) : Statement (.ldAtIydN d n) := fun _ => rfl
theorem ldRAtIyd (r : Reg8) (d : Byte) : Statement (.ldRAtIyd r d) := fun _ => by
  cases r <;> rfl
theorem ldAtIydS (d : Byte) (src : Reg8) : Statement (.ldAtIydS d src) := fun _ => by
  cases src <;> rfl
theorem ldRSIyHalf (r : RegX) (src : RegX) : Statement (.ldRSIyHalf r src) := fun h => by
  cases r <;> cases src <;> first | rfl | exact absurd h Bool.false_ne_true
theorem addAIyHalf (half : Half) : Statement (.addAIyHalf half) := fun _ => by
  cases half <;> rfl
theorem addAAtIyd (d : Byte) : Statement (.addAAtIyd d) := fun _ => rfl
theorem adcAIyHalf (half : Half) : Statement (.adcAIyHalf half) := fun _ => by
  cases half <;> rfl
theorem adcAAtIyd (d : Byte) : Statement (.adcAAtIyd d) := fun _ => rfl
theorem subIyHalf (half : Half) : Statement (.subIyHalf half) := fun _ => by
  cases half <;> rfl
theorem subAtIyd (d : Byte) : Statement (.subAtIyd d) := fun _ => rfl
theorem sbcAIyHalf (half : Half) : Statement (.sbcAIyHalf half) := fun _ => by
  cases half <;> rfl
theorem sbcAAtIyd (d : Byte) : Statement (.sbcAAtIyd d) := fun _ => rfl
theorem andIyHalf (half : Half) : Statement (.andIyHalf half) := fun _ => by
  cases half <;> rfl
theorem andAtIyd (d : Byte) : Statement (.andAtIyd d) := fun _ => rfl
theorem xorIyHalf (half : Half) : Statement (.xorIyHalf half) := fun _ => by
  cases half <;> rfl
theorem xorAtIyd (d : Byte) : Statement (.xorAtIyd d) := fun _ => rfl
theorem orIyHalf (half : Half) : Statement (.orIyHalf half) := fun _ => by
  cases half <;> rfl
theorem orAtIyd (d : Byte) : Statement (.orAtIyd d) := fun _ => rfl
theorem cpIyHalf (half : Half) : Statement (.cpIyHalf half) := fun _ => by
  cases half <;> rfl
theorem cpAtIyd (d : Byte) : Statement (.cpAtIyd d) := fun _ => rfl
theorem ignoredFd (next : ChainByte) : Statement (.ignoredFd next) := fun _ => by
  cases next <;> rfl
theorem rlcAtIxd (d : Byte) : Statement (.rlcAtIxd d) := fun _ => rfl
theorem ldRRlcAtIxd (d : Byte) (r : Reg8) : Statement (.ldRRlcAtIxd d r) := fun _ => by
  cases r <;> rfl
theorem rrcAtIxd (d : Byte) : Statement (.rrcAtIxd d) := fun _ => rfl
theorem ldRRrcAtIxd (d : Byte) (r : Reg8) : Statement (.ldRRrcAtIxd d r) := fun _ => by
  cases r <;> rfl
theorem rlAtIxd (d : Byte) : Statement (.rlAtIxd d) := fun _ => rfl
theorem ldRRlAtIxd (d : Byte) (r : Reg8) : Statement (.ldRRlAtIxd d r) := fun _ => by
  cases r <;> rfl
theorem rrAtIxd (d : Byte) : Statement (.rrAtIxd d) := fun _ => rfl
theorem ldRRrAtIxd (d : Byte) (r : Reg8) : Statement (.ldRRrAtIxd d r) := fun _ => by
  cases r <;> rfl
theorem slaAtIxd (d : Byte) : Statement (.slaAtIxd d) := fun _ => rfl
theorem ldRSlaAtIxd (d : Byte) (r : Reg8) : Statement (.ldRSlaAtIxd d r) := fun _ => by
  cases r <;> rfl
theorem sraAtIxd (d : Byte) : Statement (.sraAtIxd d) := fun _ => rfl
theorem ldRSraAtIxd (d : Byte) (r : Reg8) : Statement (.ldRSraAtIxd d r) := fun _ => by
  cases r <;> rfl
theorem sllAtIxd (d : Byte) : Statement (.sllAtIxd d) := fun _ => rfl
theorem ldRSllAtIxd (d : Byte) (r : Reg8) : Statement (.ldRSllAtIxd d r) := fun _ => by
  cases r <;> rfl
theorem srlAtIxd (d : Byte) : Statement (.srlAtIxd d) := fun _ => rfl
theorem ldRSrlAtIxd (d : Byte) (r : Reg8) : Statement (.ldRSrlAtIxd d r) := fun _ => by
  cases r <;> rfl
theorem bitBAtIxd (bit : Fin 8) (d : Byte) : Statement (.bitBAtIxd bit d) := fun _ => by
  fin_cases bit <;> rfl
theorem bitBAtIxdMirror (bit : Fin 8) (d : Byte) (z : Reg8) : Statement (.bitBAtIxdMirror bit d z) := fun _ => by
  fin_cases bit <;> cases z <;> rfl
theorem resBAtIxd (bit : Fin 8) (d : Byte) : Statement (.resBAtIxd bit d) := fun _ => by
  fin_cases bit <;> rfl
theorem ldRResBAtIxd (bit : Fin 8) (d : Byte) (r : Reg8) : Statement (.ldRResBAtIxd bit d r) := fun _ => by
  fin_cases bit <;> cases r <;> rfl
theorem setBAtIxd (bit : Fin 8) (d : Byte) : Statement (.setBAtIxd bit d) := fun _ => by
  fin_cases bit <;> rfl
theorem ldRSetBAtIxd (bit : Fin 8) (d : Byte) (r : Reg8) : Statement (.ldRSetBAtIxd bit d r) := fun _ => by
  fin_cases bit <;> cases r <;> rfl
theorem rlcAtIyd (d : Byte) : Statement (.rlcAtIyd d) := fun _ => rfl
theorem ldRRlcAtIyd (d : Byte) (r : Reg8) : Statement (.ldRRlcAtIyd d r) := fun _ => by
  cases r <;> rfl
theorem rrcAtIyd (d : Byte) : Statement (.rrcAtIyd d) := fun _ => rfl
theorem ldRRrcAtIyd (d : Byte) (r : Reg8) : Statement (.ldRRrcAtIyd d r) := fun _ => by
  cases r <;> rfl
theorem rlAtIyd (d : Byte) : Statement (.rlAtIyd d) := fun _ => rfl
theorem ldRRlAtIyd (d : Byte) (r : Reg8) : Statement (.ldRRlAtIyd d r) := fun _ => by
  cases r <;> rfl
theorem rrAtIyd (d : Byte) : Statement (.rrAtIyd d) := fun _ => rfl
theorem ldRRrAtIyd (d : Byte) (r : Reg8) : Statement (.ldRRrAtIyd d r) := fun _ => by
  cases r <;> rfl
theorem slaAtIyd (d : Byte) : Statement (.slaAtIyd d) := fun _ => rfl
theorem ldRSlaAtIyd (d : Byte) (r : Reg8) : Statement (.ldRSlaAtIyd d r) := fun _ => by
  cases r <;> rfl
theorem sraAtIyd (d : Byte) : Statement (.sraAtIyd d) := fun _ => rfl
theorem ldRSraAtIyd (d : Byte) (r : Reg8) : Statement (.ldRSraAtIyd d r) := fun _ => by
  cases r <;> rfl
theorem sllAtIyd (d : Byte) : Statement (.sllAtIyd d) := fun _ => rfl
theorem ldRSllAtIyd (d : Byte) (r : Reg8) : Statement (.ldRSllAtIyd d r) := fun _ => by
  cases r <;> rfl
theorem srlAtIyd (d : Byte) : Statement (.srlAtIyd d) := fun _ => rfl
theorem ldRSrlAtIyd (d : Byte) (r : Reg8) : Statement (.ldRSrlAtIyd d r) := fun _ => by
  cases r <;> rfl
theorem bitBAtIyd (bit : Fin 8) (d : Byte) : Statement (.bitBAtIyd bit d) := fun _ => by
  fin_cases bit <;> rfl
theorem bitBAtIydMirror (bit : Fin 8) (d : Byte) (z : Reg8) : Statement (.bitBAtIydMirror bit d z) := fun _ => by
  fin_cases bit <;> cases z <;> rfl
theorem resBAtIyd (bit : Fin 8) (d : Byte) : Statement (.resBAtIyd bit d) := fun _ => by
  fin_cases bit <;> rfl
theorem ldRResBAtIyd (bit : Fin 8) (d : Byte) (r : Reg8) : Statement (.ldRResBAtIyd bit d r) := fun _ => by
  fin_cases bit <;> cases r <;> rfl
theorem setBAtIyd (bit : Fin 8) (d : Byte) : Statement (.setBAtIyd bit d) := fun _ => by
  fin_cases bit <;> rfl
theorem ldRSetBAtIyd (bit : Fin 8) (d : Byte) (r : Reg8) : Statement (.ldRSetBAtIyd bit d r) := fun _ => by
  fin_cases bit <;> cases r <;> rfl
theorem nop : Statement .nop := fun _ => rfl
theorem ldAtBcA : Statement .ldAtBcA := fun _ => rfl
theorem ldAtDeA : Statement .ldAtDeA := fun _ => rfl
theorem ldAAtBc : Statement .ldAAtBc := fun _ => rfl
theorem ldAAtDe : Statement .ldAAtDe := fun _ => rfl
theorem incAtHl : Statement .incAtHl := fun _ => rfl
theorem decAtHl : Statement .decAtHl := fun _ => rfl
theorem rlca : Statement .rlca := fun _ => rfl
theorem rrca : Statement .rrca := fun _ => rfl
theorem rla : Statement .rla := fun _ => rfl
theorem rra : Statement .rra := fun _ => rfl
theorem daa : Statement .daa := fun _ => rfl
theorem cpl : Statement .cpl := fun _ => rfl
theorem scf : Statement .scf := fun _ => rfl
theorem ccf : Statement .ccf := fun _ => rfl
theorem exAfAf : Statement .exAfAf := fun _ => rfl
theorem ret : Statement .ret := fun _ => rfl
theorem exx : Statement .exx := fun _ => rfl
theorem jpHl : Statement .jpHl := fun _ => rfl
theorem ldSpHl : Statement .ldSpHl := fun _ => rfl
theorem exDeHl : Statement .exDeHl := fun _ => rfl
theorem di : Statement .di := fun _ => rfl
theorem ei : Statement .ei := fun _ => rfl
theorem halt : Statement .halt := fun _ => rfl
theorem addAAtHl : Statement .addAAtHl := fun _ => rfl
theorem adcAAtHl : Statement .adcAAtHl := fun _ => rfl
theorem subAtHl : Statement .subAtHl := fun _ => rfl
theorem sbcAAtHl : Statement .sbcAAtHl := fun _ => rfl
theorem andAtHl : Statement .andAtHl := fun _ => rfl
theorem xorAtHl : Statement .xorAtHl := fun _ => rfl
theorem orAtHl : Statement .orAtHl := fun _ => rfl
theorem cpAtHl : Statement .cpAtHl := fun _ => rfl
theorem exAtSpHl : Statement .exAtSpHl := fun _ => rfl
theorem prefixCb : Statement .prefixCb := fun _ => rfl
theorem prefixEd : Statement .prefixEd := fun _ => rfl
theorem prefixDd : Statement .prefixDd := fun _ => rfl
theorem prefixFd : Statement .prefixFd := fun _ => rfl
theorem rlcAtHl : Statement .rlcAtHl := fun _ => rfl
theorem rrcAtHl : Statement .rrcAtHl := fun _ => rfl
theorem rlAtHl : Statement .rlAtHl := fun _ => rfl
theorem rrAtHl : Statement .rrAtHl := fun _ => rfl
theorem slaAtHl : Statement .slaAtHl := fun _ => rfl
theorem sraAtHl : Statement .sraAtHl := fun _ => rfl
theorem sllAtHl : Statement .sllAtHl := fun _ => rfl
theorem srlAtHl : Statement .srlAtHl := fun _ => rfl
theorem inFAtC : Statement .inFAtC := fun _ => rfl
theorem outAtC0 : Statement .outAtC0 := fun _ => rfl
theorem neg : Statement .neg := fun _ => rfl
theorem retn : Statement .retn := fun _ => rfl
theorem reti : Statement .reti := fun _ => rfl
theorem im0 : Statement .im0 := fun _ => rfl
theorem im0Mirror : Statement .im0Mirror := fun _ => rfl
theorem im1 : Statement .im1 := fun _ => rfl
theorem im1Mirror : Statement .im1Mirror := fun _ => rfl
theorem im2 : Statement .im2 := fun _ => rfl
theorem im2Mirror : Statement .im2Mirror := fun _ => rfl
theorem ldIA : Statement .ldIA := fun _ => rfl
theorem ldRA : Statement .ldRA := fun _ => rfl
theorem ldAI : Statement .ldAI := fun _ => rfl
theorem ldAR : Statement .ldAR := fun _ => rfl
theorem rrd : Statement .rrd := fun _ => rfl
theorem rld : Statement .rld := fun _ => rfl
theorem ldi : Statement .ldi := fun _ => rfl
theorem cpi : Statement .cpi := fun _ => rfl
theorem ini : Statement .ini := fun _ => rfl
theorem outi : Statement .outi := fun _ => rfl
theorem ldd : Statement .ldd := fun _ => rfl
theorem cpd : Statement .cpd := fun _ => rfl
theorem ind : Statement .ind := fun _ => rfl
theorem outd : Statement .outd := fun _ => rfl
theorem ldir : Statement .ldir := fun _ => rfl
theorem cpir : Statement .cpir := fun _ => rfl
theorem inir : Statement .inir := fun _ => rfl
theorem otir : Statement .otir := fun _ => rfl
theorem lddr : Statement .lddr := fun _ => rfl
theorem cpdr : Statement .cpdr := fun _ => rfl
theorem indr : Statement .indr := fun _ => rfl
theorem otdr : Statement .otdr := fun _ => rfl
theorem incIx : Statement .incIx := fun _ => rfl
theorem decIx : Statement .decIx := fun _ => rfl
theorem popIx : Statement .popIx := fun _ => rfl
theorem exAtSpIx : Statement .exAtSpIx := fun _ => rfl
theorem pushIx : Statement .pushIx := fun _ => rfl
theorem jpIx : Statement .jpIx := fun _ => rfl
theorem ldSpIx : Statement .ldSpIx := fun _ => rfl
theorem prefixDdCb : Statement .prefixDdCb := fun _ => rfl
theorem incIy : Statement .incIy := fun _ => rfl
theorem decIy : Statement .decIy := fun _ => rfl
theorem popIy : Statement .popIy := fun _ => rfl
theorem exAtSpIy : Statement .exAtSpIy := fun _ => rfl
theorem pushIy : Statement .pushIy := fun _ => rfl
theorem jpIy : Statement .jpIy := fun _ => rfl
theorem ldSpIy : Statement .ldSpIy := fun _ => rfl
theorem prefixFdCb : Statement .prefixFdCb := fun _ => rfl

/-- A DD or FD before an unprefixed instruction it does not affect: the rows of the unprefixed table that carry no HL, H, L or (HL). -/
theorem unprefixed_decodes (x : XY) (inner : Instr) (h : inner.unaffected = true) :
    decode (XY.pick x 0xDD#8 0xFD#8 :: encodeBase inner)
      = .ok (x.pick (.ddUnprefixed inner) (.fdUnprefixed inner), (encodeBase inner).length + 1) := by
  cases inner
  case ldAtNnA nn =>
    cases x <;> exact congrArg (fun w => Except.ok (XY.pick _ (Instr.ddUnprefixed (.ldAtNnA w)) (.fdUnprefixed (.ldAtNnA w)), 4))
      (nnHi_append_nnLo nn)
  case ldAAtNn nn =>
    cases x <;> exact congrArg (fun w => Except.ok (XY.pick _ (Instr.ddUnprefixed (.ldAAtNn w)) (.fdUnprefixed (.ldAAtNn w)), 4))
      (nnHi_append_nnLo nn)
  case jpNn nn =>
    cases x <;> exact congrArg (fun w => Except.ok (XY.pick _ (Instr.ddUnprefixed (.jpNn w)) (.fdUnprefixed (.jpNn w)), 4))
      (nnHi_append_nnLo nn)
  case callNn nn =>
    cases x <;> exact congrArg (fun w => Except.ok (XY.pick _ (Instr.ddUnprefixed (.callNn w)) (.fdUnprefixed (.callNn w)), 4))
      (nnHi_append_nnLo nn)
  case ldRpNn rp nn =>
    cases rp <;> first
      | exact absurd h Bool.false_ne_true
      | (cases x <;> exact congrArg
          (fun w => Except.ok (XY.pick _ (Instr.ddUnprefixed (.ldRpNn _ w)) (.fdUnprefixed (.ldRpNn _ w)), 4))
          (nnHi_append_nnLo nn))
  case jpCcNn cc nn =>
    cases cc <;> first
      | exact absurd h Bool.false_ne_true
      | (cases x <;> exact congrArg
          (fun w => Except.ok (XY.pick _ (Instr.ddUnprefixed (.jpCcNn _ w)) (.fdUnprefixed (.jpCcNn _ w)), 4))
          (nnHi_append_nnLo nn))
  case callCcNn cc nn =>
    cases cc <;> first
      | exact absurd h Bool.false_ne_true
      | (cases x <;> exact congrArg
          (fun w => Except.ok (XY.pick _ (Instr.ddUnprefixed (.callCcNn _ w)) (.fdUnprefixed (.callCcNn _ w)), 4))
          (nnHi_append_nnLo nn))
  case rstP t => fin_cases t <;> cases x <;> rfl
  all_goals first
    | exact absurd h Bool.false_ne_true
    | (cases x <;> rfl)
    | (rename_i r; cases r <;> first | exact absurd h Bool.false_ne_true | (cases x <;> rfl))
    | (rename_i r src; cases r <;> first
        | exact absurd h Bool.false_ne_true
        | (cases x <;> rfl)
        | (cases src <;> first | exact absurd h Bool.false_ne_true | (cases x <;> rfl)))

theorem ddUnprefixed (inner : Instr) : Statement (.ddUnprefixed inner) := fun h => unprefixed_decodes .ix inner h
theorem fdUnprefixed (inner : Instr) : Statement (.fdUnprefixed inner) := fun h => unprefixed_decodes .iy inner h

end RoundTrip

end Sys2Proof.Laws
end

