-- ==== Sys2Proof/Tests/Slice0.lean ====
section
/-! SUPPORT. Tests. The expected results are the spec's: the words of the decode tests are written out from the encoding tables of
30_encoding.md, the one-step vectors are those of 95_test_vectors.md. The witnesses show, for each statement of
Certificates/Slice0/Obligations.lean with hypotheses, states and operands that meet them, clause by clause. -/

namespace Sys2Proof.Tests

open Sys2Proof Sys2Proof.Machine

/-! ## Fixtures -/

/-- The bytes at PC, over one RAM of 64 KB, the other state as after reset (95_test_vectors.md, conventions). -/
def code (pc : Word) (bytes : List Byte) : State := { State.reset with pc := pc, mem := placeBytes [] pc bytes }

/-- More bytes of memory. -/
def holding (s : State) (cells : List (Nat × Byte)) : State :=
  { s with mem := cells.foldl (fun m c => m.set c.1 c.2) s.mem }

/-- The step completes in a state with the property. -/
def after (s : State) (p : State → Bool) : Bool :=
  match step s with
  | .next t => p t
  | .fault _ => false
  | .refused _ => false

/-- The step faults with this code and leaves a state with the property. -/
def faults (s : State) (fault : Nat) (p : State → Bool) : Bool :=
  match step s with
  | .next _ => false
  | .fault e => e.code == fault && p e.left
  | .refused _ => false

theorem exists_next (s : State) (h : after s (fun _ => true) = true) : ∃ t, step s = .next t := by
  unfold after at h
  split at h <;> simp_all

/-- The instruction completes. -/
def completes (i : Instr) (s : State) : Bool :=
  match exec i s with
  | .next _ => true
  | .fault _ => false
  | .refused _ => false

theorem exists_exec (i : Instr) (s : State) (h : completes i s = true) : ∃ t, exec i s = .next t := by
  unfold completes at h
  split at h <;> simp_all

/-- ROM 0x0000 to 0x3FFF with a short image, RAM 0x4000 to 0x7FFF, slot 8 unbound, RAM 0x9000 to 0x97FF (slot 9 only half
covered), RAM 0xF000 to 0xFFFF. -/
def mixedBus : AddressSpace where
  components :=
    [{ kind := .rom, base := 0x0000, size := 0x4000, image := [0x11#8, 0x22#8] },
      { kind := .ram, base := 0x4000, size := 0x4000, image := [] },
      { kind := .ram, base := 0x9000, size := 0x0800, image := [] },
      { kind := .ram, base := 0xF000, size := 0x1000, image := [] }]

/-- Every address register at `p`, on the mixed bus. -/
def pointing (p : Word) : State :=
  { State.reset with
    b := hiByte p, c := loByte p, d := hiByte p, e := loByte p, h := hiByte p, l := loByte p
    ix := p, iy := p, sp := p, bus := mixedBus }

/-- What a read or write of an address that no component covers answers. -/
abbrev hole (a : Word) : AccessError := .outOfRange a none

/-! ## Well-formed instructions: each check refuses an ill-formed term -/

theorem test_wf_ld_at_nn_rp : (Instr.ldAtNnRp 0x8000#16 .hl).wf = false ∧ (Instr.ldAtNnRp 0x8000#16 .sp).wf = true := by decide
theorem test_wf_ld_rp_at_nn : (Instr.ldRpAtNn .hl 0x8000#16).wf = false ∧ (Instr.ldRpAtNn .de 0x8000#16).wf = true := by decide
theorem test_wf_neg_mirror : (Instr.negMirror 0).wf = false ∧ (Instr.negMirror 7).wf = true := by decide
theorem test_wf_retn_mirror :
    (Instr.retnMirror 0).wf = false ∧ (Instr.retnMirror 1).wf = false ∧ (Instr.retnMirror 2).wf = true := by decide
theorem test_wf_nop_ed :
    (Instr.nopEd 0xA0#8).wf = false ∧ (Instr.nopEd 0x40#8).wf = false ∧ (Instr.nopEd 0xA4#8).wf = true ∧
      (Instr.nopEd 0x3F#8).wf = true := by decide
theorem test_wf_halves :
    (Instr.ldRSIxHalf .b .c).wf = false ∧ (Instr.ldRSIyHalf .a .a).wf = false ∧ (Instr.ldRSIxHalf .xh .xl).wf = true ∧
      (Instr.ldRSIyHalf .b .xl).wf = true := by decide
theorem test_wf_prefixed :
    (Instr.ddUnprefixed (.ldRS .h .b)).wf = false ∧ (Instr.fdUnprefixed .prefixCb).wf = false ∧
      (Instr.ddUnprefixed (.ddUnprefixed .nop)).wf = false ∧ (Instr.fdUnprefixed (.addAAtHl)).wf = false ∧
      (Instr.ddUnprefixed .exDeHl).wf = true := by decide

/-! ## One-step vectors of 95_test_vectors.md -/

theorem test_dd_before_fd : after (code 0x0000#16 [0xDD#8, 0xFD#8, 0x21#8, 0x34#8, 0x12#8]) (fun t =>
    t.pc == 0x0001#16 && t.r == 0x01#8 && t.cycles == 4 && t.intBlock == .all && t.iy == 0#16) = true := by decide
theorem test_dd_ex_de_hl :
    after { code 0x0000#16 [0xDD#8, 0xEB#8] with d := 0x11#8, e := 0x12#8, h := 0x22#8, l := 0x23#8, ix := 0x3333#16 } (fun t =>
      t.de == 0x2223#16 && t.hl == 0x1112#16 && t.ix == 0x3333#16 && t.cycles == 8) = true := by decide
theorem test_ld_a_iy_wraps :
    after (holding { code 0x0000#16 [0xFD#8, 0x7E#8, 0x7F#8] with iy := 0xFFFF#16 } [(0x7E, 0x44#8)]) (fun t =>
      t.a == 0x44#8 && t.pc == 0x0003#16 && t.cycles == 19) = true := by decide
theorem test_ld_at_ix_h :
    after { code 0x0000#16 [0xDD#8, 0x74#8, 0x05#8] with h := 0x12#8, ix := 0x8000#16 } (fun t =>
      t.mem.get 0x8005 == 0x12#8 && t.cycles == 19) = true := by decide
theorem test_ld_a_i : after { code 0x0000#16 [0xED#8, 0x57#8] with f := 0x01#8, i := 0x80#8, iff2 := true } (fun t =>
    t.a == 0x80#8 && t.f == 0x85#8 && t.ldAir && t.cycles == 9) = true := by decide
theorem test_ld_a_r : after { code 0x0000#16 [0xED#8, 0x5F#8] with r := 0x7F#8 } (fun t =>
    t.a == 0x01#8 && t.f == 0x00#8 && t.r == 0x01#8) = true := by decide
theorem test_ld_hl_at_ffff :
    after (holding (code 0x0000#16 [0x2A#8, 0xFF#8, 0xFF#8]) [(0xFFFF, 0x34#8)]) (fun t =>
      t.hl == 0x2A34#16 && t.cycles == 16) = true := by decide
theorem test_push_af_wraps :
    after { code 0x0100#16 [0xF5#8] with a := 0x12#8, f := 0x34#8, sp := 0x0001#16 } (fun t =>
      t.sp == 0xFFFF#16 && t.mem.get 0x0000 == 0x12#8 && t.mem.get 0xFFFF == 0x34#8 && t.cycles == 11) = true := by decide
theorem test_pop_af :
    after (holding { code 0x0000#16 [0xF1#8] with sp := 0x8FFE#16 } [(0x8FFE, 0xFF#8), (0x8FFF, 0x80#8)]) (fun t =>
      t.a == 0x80#8 && t.f == 0xFF#8 && t.sp == 0x9000#16 && t.cycles == 10) = true := by decide
theorem test_ex_sp_ix :
    after (holding { code 0x0000#16 [0xDD#8, 0xE3#8] with ix := 0x1234#16, sp := 0x9000#16 }
        [(0x9000, 0x78#8), (0x9001, 0x56#8)]) (fun t =>
      t.ix == 0x5678#16 && t.mem.get 0x9000 == 0x34#8 && t.mem.get 0x9001 == 0x12#8 && t.cycles == 23) = true := by decide
theorem test_ldi :
    after (holding { code 0x0000#16 [0xED#8, 0xA0#8] with c := 0x02#8, d := 0x90#8, h := 0x80#8 } [(0x8000, 0x0A#8)]) (fun t =>
      t.bc == 0x0001#16 && t.de == 0x9001#16 && t.hl == 0x8001#16 && t.f == 0x2C#8 && t.mem.get 0x9000 == 0x0A#8) = true := by
  decide
theorem test_ldir_repeats :
    after (holding { code 0x0000#16 [0xED#8, 0xB0#8] with c := 0x00#8, d := 0x90#8, h := 0x80#8 } [(0x8000, 0x11#8)]) (fun t =>
      t.bc == 0xFFFF#16 && t.pc == 0x0000#16 && t.cycles == 21 && t.mem.get 0x9000 == 0x11#8) = true := by decide
theorem test_cpi :
    after (holding { code 0x0000#16 [0xED#8, 0xA1#8] with c := 0x01#8, h := 0x80#8, a := 0x10#8 } [(0x8000, 0x01#8)]) (fun t =>
      t.bc == 0x0000#16 && t.hl == 0x8001#16 && t.f == 0x3A#8 && t.a == 0x10#8) = true := by decide
theorem test_cpdr_ends :
    after (holding { code 0x0000#16 [0xED#8, 0xB9#8] with c := 0x01#8, h := 0x80#8, a := 0x22#8 } [(0x8000, 0x11#8)]) (fun t =>
      t.hl == 0x7FFF#16 && t.f == 0x02#8 && t.pc == 0x0002#16 && t.cycles == 16) = true := by decide
theorem test_adc_half_carry :
    after { code 0x0000#16 [0x8E#8] with h := 0x80#8, a := 0x0F#8, f := 0x01#8 } (fun t =>
      t.a == 0x10#8 && t.f == 0x10#8 && t.cycles == 7) = true := by decide
theorem test_sub_overflow : after { code 0x0000#16 [0x91#8] with a := 0x80#8, c := 0x01#8 } (fun t =>
    t.a == 0x7F#8 && t.f == 0x3E#8) = true := by decide
theorem test_and : after { code 0x0000#16 [0xE6#8, 0x0F#8] with a := 0xF3#8, f := 0xFF#8 } (fun t =>
    t.a == 0x03#8 && t.f == 0x14#8) = true := by decide
theorem test_or_ixh : after { code 0x0000#16 [0xDD#8, 0xB4#8] with a := 0x01#8, ix := 0x0200#16 } (fun t =>
    t.a == 0x03#8 && t.f == 0x04#8 && t.cycles == 8) = true := by decide
theorem test_cp_takes_operand_bits : after { code 0x0000#16 [0xFE#8, 0x28#8] with a := 0x28#8 } (fun t =>
    t.a == 0x28#8 && t.f == 0x6A#8 && t.cycles == 7) = true := by decide
theorem test_inc_keeps_carry : after { code 0x0000#16 [0x3C#8] with a := 0x7F#8, f := 0x01#8 } (fun t =>
    t.a == 0x80#8 && t.f == 0x95#8) = true := by decide
theorem test_dec_at_ix :
    after (holding { code 0x0000#16 [0xDD#8, 0x35#8, 0x02#8] with ix := 0x8000#16 } [(0x8002, 0x01#8)]) (fun t =>
      t.mem.get 0x8002 == 0x00#8 && t.f == 0x42#8 && t.cycles == 23) = true := by decide
theorem test_daa_add : after { code 0x0000#16 [0x27#8] with a := 0x9A#8 } (fun t => t.a == 0x00#8 && t.f == 0x55#8) = true := by
  decide
theorem test_daa_sub : after { code 0x0000#16 [0x27#8] with a := 0xFF#8, f := 0x13#8 } (fun t =>
    t.a == 0x99#8 && t.f == 0x8F#8) = true := by decide
theorem test_neg : after { code 0x0000#16 [0xED#8, 0x44#8] with a := 0x80#8 } (fun t =>
    t.a == 0x80#8 && t.f == 0x87#8 && t.cycles == 8) = true := by decide
theorem test_scf : after { code 0x0000#16 [0x37#8] with a := 0xFF#8, f := 0xC2#8 } (fun t => t.f == 0xE9#8) = true := by decide
theorem test_ccf : after { code 0x0000#16 [0x3F#8] with a := 0xFF#8, f := 0x01#8 } (fun t => t.f == 0x38#8) = true := by decide
theorem test_halt : after (code 0x0000#16 [0x76#8]) (fun t => t.halted && t.pc == 0x0001#16 && t.r == 0x01#8) = true := by decide
theorem test_halted_cycle : after { code 0x0000#16 [0x76#8] with halted := true } (fun t =>
    t.halted && t.pc == 0x0000#16 && t.r == 0x01#8 && t.cycles == 4) = true := by decide
theorem test_im2 : after (code 0x0000#16 [0xED#8, 0x5E#8]) (fun t => t.im == .im2 && t.cycles == 8) = true := by decide
theorem test_add_hl : after { code 0x0000#16 [0x09#8] with c := 0x01#8, h := 0x0F#8, l := 0xFF#8, f := 0xC4#8 } (fun t =>
    t.hl == 0x1000#16 && t.f == 0xD4#8 && t.cycles == 11) = true := by decide
theorem test_adc_hl_overflow :
    after { code 0x0000#16 [0xED#8, 0x5A#8] with h := 0x7F#8, l := 0xFF#8, f := 0x01#8 } (fun t =>
      t.hl == 0x8000#16 && t.f == 0x94#8) = true := by decide
theorem test_sbc_hl : after { code 0x0000#16 [0xED#8, 0x52#8] with e := 0x01#8, h := 0x10#8 } (fun t =>
    t.hl == 0x0FFF#16 && t.f == 0x1A#8 && t.cycles == 15) = true := by decide
theorem test_dec_iy : after (code 0x0000#16 [0xFD#8, 0x2B#8]) (fun t => t.iy == 0xFFFF#16 && t.cycles == 10) = true := by decide
theorem test_rlca : after { code 0x0000#16 [0x07#8] with a := 0x81#8, f := 0xC4#8 } (fun t =>
    t.a == 0x03#8 && t.f == 0xC5#8) = true := by decide
theorem test_sra : after { code 0x0000#16 [0xCB#8, 0x2C#8] with h := 0x81#8 } (fun t =>
    t.h == 0xC0#8 && t.f == 0x85#8 && t.cycles == 8) = true := by decide
theorem test_rlc_copy :
    after (holding { code 0x0000#16 [0xDD#8, 0xCB#8, 0x03#8, 0x00#8] with ix := 0x8000#16 } [(0x8003, 0x88#8)]) (fun t =>
      t.b == 0x11#8 && t.f == 0x05#8 && t.mem.get 0x8003 == 0x11#8 && t.r == 0x02#8 && t.cycles == 23) = true := by decide
theorem test_rld :
    after (holding { code 0x0000#16 [0xED#8, 0x6F#8] with h := 0x80#8, a := 0x12#8, f := 0x01#8 } [(0x8000, 0x34#8)]) (fun t =>
      t.a == 0x13#8 && t.f == 0x01#8 && t.mem.get 0x8000 == 0x42#8 && t.cycles == 18) = true := by decide
theorem test_rrd :
    after (holding { code 0x0000#16 [0xED#8, 0x67#8] with h := 0x80#8, a := 0x12#8 } [(0x8000, 0x34#8)]) (fun t =>
      t.a == 0x14#8 && t.f == 0x04#8 && t.mem.get 0x8000 == 0x23#8) = true := by decide
theorem test_bit_7 : after { code 0x0000#16 [0xCB#8, 0x7C#8] with h := 0x80#8, f := 0x01#8 } (fun t => t.f == 0x91#8) = true := by
  decide
theorem test_bit_indexed : after { code 0x0000#16 [0xDD#8, 0xCB#8, 0x02#8, 0x4E#8] with ix := 0x2800#16 } (fun t =>
    t.f == 0x7C#8 && t.cycles == 20) = true := by decide
theorem test_set_copy :
    after (holding { code 0x0000#16 [0xDD#8, 0xCB#8, 0x00#8, 0xF1#8] with ix := 0x8000#16 } [(0x8000, 0x01#8)]) (fun t =>
      t.c == 0x41#8 && t.mem.get 0x8000 == 0x41#8) = true := by decide
theorem test_jp_not_taken_wraps :
    after (holding { code 0xFFFE#16 [0xE2#8, 0xCD#8] with f := 0x04#8 } [(0x0000, 0xAB#8)]) (fun t =>
      t.pc == 0x0001#16 && t.cycles == 10) = true := by decide
theorem test_jr_wraps : after (code 0x0010#16 [0x18#8, 0x80#8]) (fun t => t.pc == 0xFF92#16 && t.cycles == 12) = true := by decide
theorem test_djnz_taken : after { code 0x0480#16 [0x10#8, 0x03#8] with b := 0x02#8 } (fun t =>
    t.b == 0x01#8 && t.pc == 0x0485#16 && t.cycles == 13) = true := by decide
theorem test_djnz_falls_through : after { code 0x0480#16 [0x10#8, 0x03#8] with b := 0x01#8 } (fun t =>
    t.b == 0x00#8 && t.pc == 0x0482#16 && t.cycles == 8) = true := by decide
theorem test_call : after { code 0x0000#16 [0xCD#8, 0x34#8, 0x12#8] with sp := 0x9000#16 } (fun t =>
    t.pc == 0x1234#16 && t.sp == 0x8FFE#16 && t.mem.get 0x8FFE == 0x03#8 && t.cycles == 17) = true := by decide
theorem test_ret_not_taken : after { code 0x0000#16 [0xC8#8] with sp := 0x8FFE#16 } (fun t =>
    t.pc == 0x0001#16 && t.sp == 0x8FFE#16 && t.cycles == 5) = true := by decide
theorem test_reti :
    after (holding { code 0x0000#16 [0xED#8, 0x4D#8] with sp := 0x8FFE#16, iff2 := true } [(0x8FFE, 0x78#8), (0x8FFF, 0x56#8)])
      (fun t => t.pc == 0x5678#16 && t.sp == 0x9000#16 && t.iff1 && t.cycles == 14) = true := by decide
theorem test_rst : after { code 0x1234#16 [0xFF#8] with sp := 0x9000#16 } (fun t =>
    t.pc == 0x0038#16 && t.mem.get 0x8FFF == 0x12#8 && t.mem.get 0x8FFE == 0x35#8) = true := by decide
theorem test_in_a_n : after { code 0x0000#16 [0xDB#8, 0xFE#8] with a := 0x7F#8, f := 0x01#8, ioAnswers := [0xBF#8] } (fun t =>
    t.a == 0xBF#8 && t.f == 0x01#8 && t.events == [.input 0x7FFE#16 0xBF#8] && t.cycles == 11) = true := by decide
theorem test_in_f_c : after { code 0x0000#16 [0xED#8, 0x70#8] with c := 0xFE#8, ioAnswers := [0xA5#8] } (fun t =>
    t.f == 0xA4#8 && t.events == [.input 0x00FE#16 0xA5#8]) = true := by decide
theorem test_out_c_0 : after { code 0x0000#16 [0xED#8, 0x71#8] with c := 0xFE#8 } (fun t =>
    t.events == [.output 0x00FE#16 0x00#8] && t.cycles == 12) = true := by decide
theorem test_outi :
    after (holding { code 0x0000#16 [0xED#8, 0xA3#8] with b := 0x03#8, c := 0x10#8, h := 0x80#8, l := 0xFF#8 } [(0x80FF, 0x81#8)])
      (fun t => t.bc == 0x0210#16 && t.hl == 0x8100#16 && t.f == 0x06#8 && t.events == [.output 0x0210#16 0x81#8]) = true := by
  decide
theorem test_inir_ends :
    after { code 0x0000#16 [0xED#8, 0xB2#8] with b := 0x01#8, c := 0x10#8, h := 0x80#8, ioAnswers := [0xFF#8] } (fun t =>
      t.f == 0x57#8 && t.mem.get 0x8000 == 0xFF#8 && t.events == [.input 0x0110#16 0xFF#8] && t.cycles == 16) = true := by decide
theorem test_nmi :
    after { code 0x1234#16 [0x00#8] with
        sp := 0x9000#16, iff1 := true, iff2 := true, inputs := [{ nmiEdge := true, intLine := false, busByte := 0xFF#8 }] }
      (fun t => t.pc == 0x0066#16 && t.sp == 0x8FFE#16 && !t.iff1 && t.iff2 && t.mem.get 0x8FFE == 0x34#8 && t.cycles == 11)
        = true := by decide
theorem test_int_im2 :
    after (holding { code 0x1234#16 [0x00#8] with
        sp := 0x9000#16, iff1 := true, iff2 := true, im := .im2, i := 0x80#8
        inputs := [{ nmiEdge := false, intLine := true, busByte := 0xFE#8 }] } [(0x80FF, 0x40#8)])
      (fun t => t.pc == 0x4000#16 && t.sp == 0x8FFE#16 && !t.iff1 && !t.iff2 && t.cycles == 19) = true := by decide
theorem test_int_im0_restart :
    after { code 0x1234#16 [0x00#8] with
        sp := 0x9000#16, iff1 := true, iff2 := true, inputs := [{ nmiEdge := false, intLine := true, busByte := 0xCF#8 }] }
      (fun t => t.pc == 0x0008#16 && t.cycles == 13) = true := by decide

/-! ## The fault examples of 95_test_vectors.md -/

/-- ROM 0x0000 to 0x3FFF, RAM 0x4000 to 0xFFFF. -/
def romAndRam : AddressSpace where
  components :=
    [{ kind := .rom, base := 0x0000, size := 0x4000, image := [] }, { kind := .ram, base := 0x4000, size := 0xC000, image := [] }]

theorem test_push_into_rom :
    faults { code 0x8000#16 [0xC5#8] with bus := romAndRam, sp := 0x4001#16, b := 0x12#8, c := 0x34#8 } 2 (fun t =>
      t.pc == 0x8001#16 && t.sp == 0x3FFF#16 && t.mem.get 0x4000 == 0x12#8) = true := by decide
theorem test_inc_rom_keeps_flags :
    faults { code 0x8000#16 [0x34#8] with bus := romAndRam, h := 0x01#8 } 2 (fun t =>
      t.pc == 0x8001#16 && t.f == 0x00#8) = true := by decide
theorem test_ld_into_rom :
    faults { code 0x8000#16 [0x32#8, 0x00#8, 0x00#8] with bus := romAndRam, a := 0x77#8 } 2 (fun t =>
      t.pc == 0x8003#16) = true := by decide
theorem test_fetch_past_a_region :
    faults { code 0x80FF#16 [0x01#8] with
        bus := { components := [{ kind := .ram, base := 0x8000, size := 0x0100, image := [] }] } } 1 (fun t =>
      t.pc == 0x8100#16 && t.r == 0x01#8) = true := by decide
theorem test_undocumented_policy :
    faults { code 0x0000#16 [0xDD#8, 0xCB#8, 0x01#8, 0x00#8] with
        params := { cpuVariant := .nmos, undocPolicy := .fault, outC0 := none } } 3 (fun t =>
      t.pc == 0x0004#16 && t.r == 0x02#8) = true := by decide

/-- The Address Space example (95_test_vectors.md 1.9): overlap is refused, detaching unbinds. -/
theorem test_attach_overlap :
    let low : Component := { kind := .ram, base := 0x0000, size := 0x4000, image := [] }
    let overlap : Component := { kind := .ram, base := 0x3FFF, size := 0x0002, image := [] }
    let next : Component := { kind := .ram, base := 0x4000, size := 0x1000, image := [] }
    (AddressSpace.build [low, overlap]).toOption = none ∧
      (AddressSpace.build [low, next]).toOption.map AddressSpace.totalSize = some 0x5000 ∧
      ((AddressSpace.build [low, next]).toOption.bind fun bus => (bus.detach low).toOption).map AddressSpace.lowestBase
        = some (some 0x4000) := by decide

/-! ## Decoding: one word of every row of the opcode table, written out from the table's pattern -/

theorem test_decode_base_1 :
    decode [0x00#8] = .ok (.nop, 1) ∧
      decode [0x31#8, 0x12#8, 0xA2#8] = .ok (.ldRpNn .sp 0xA212#16, 3) ∧
      decode [0x29#8] = .ok (.addHlRp .hl, 1) ∧
      decode [0x02#8] = .ok (.ldAtBcA, 1) ∧
      decode [0x12#8] = .ok (.ldAtDeA, 1) ∧
      decode [0x22#8, 0x16#8, 0xA6#8] = .ok (.ldAtNnHl 0xA616#16, 3) ∧
      decode [0x32#8, 0x17#8, 0xA7#8] = .ok (.ldAtNnA 0xA717#16, 3) ∧
      decode [0x0A#8] = .ok (.ldAAtBc, 1) ∧
      decode [0x1A#8] = .ok (.ldAAtDe, 1) ∧
      decode [0x2A#8, 0x1A#8, 0xAA#8] = .ok (.ldHlAtNn 0xAA1A#16, 3) ∧
      decode [0x3A#8, 0x1B#8, 0xAB#8] = .ok (.ldAAtNn 0xAB1B#16, 3) ∧
      decode [0x13#8] = .ok (.incRp .de, 1) ∧
      decode [0x0B#8] = .ok (.decRp .bc, 1) ∧
      decode [0x0C#8] = .ok (.incR .c, 1) := by
  decide

theorem test_decode_base_2 :
    decode [0x34#8] = .ok (.incAtHl, 1) ∧
      decode [0x05#8] = .ok (.decR .b, 1) ∧
      decode [0x35#8] = .ok (.decAtHl, 1) ∧
      decode [0x3E#8, 0xD2#8] = .ok (.ldRN .a 0xD2#8, 2) ∧
      decode [0x36#8, 0xD3#8] = .ok (.ldAtHlN 0xD3#8, 2) ∧
      decode [0x07#8] = .ok (.rlca, 1) ∧
      decode [0x0F#8] = .ok (.rrca, 1) ∧
      decode [0x17#8] = .ok (.rla, 1) ∧
      decode [0x1F#8] = .ok (.rra, 1) ∧
      decode [0x27#8] = .ok (.daa, 1) ∧
      decode [0x2F#8] = .ok (.cpl, 1) ∧
      decode [0x37#8] = .ok (.scf, 1) ∧
      decode [0x3F#8] = .ok (.ccf, 1) ∧
      decode [0x08#8] = .ok (.exAfAf, 1) := by
  decide

theorem test_decode_base_3 :
    decode [0xC9#8] = .ok (.ret, 1) ∧
      decode [0xD9#8] = .ok (.exx, 1) ∧
      decode [0xE9#8] = .ok (.jpHl, 1) ∧
      decode [0xF9#8] = .ok (.ldSpHl, 1) ∧
      decode [0xEB#8] = .ok (.exDeHl, 1) ∧
      decode [0xF3#8] = .ok (.di, 1) ∧
      decode [0xFB#8] = .ok (.ei, 1) ∧
      decode [0x76#8] = .ok (.halt, 1) ∧
      decode [0x10#8, 0x83#8] = .ok (.djnzE 0x83#8, 2) ∧
      decode [0x18#8, 0x8A#8] = .ok (.jrE 0x8A#8, 2) ∧
      decode [0x30#8, 0x91#8] = .ok (.jrCcE .nc 0x91#8, 2) ∧
      decode [0x52#8] = .ok (.ldRS .d .d, 1) ∧
      decode [0x6E#8] = .ok (.ldRAtHl .l, 1) ∧
      decode [0x71#8] = .ok (.ldAtHlS .c, 1) := by
  decide

theorem test_decode_base_4 :
    decode [0x84#8] = .ok (.addAS .h, 1) ∧
      decode [0x86#8] = .ok (.addAAtHl, 1) ∧
      decode [0xC6#8, 0xED#8] = .ok (.addAN 0xED#8, 2) ∧
      decode [0x8F#8] = .ok (.adcAS .a, 1) ∧
      decode [0x8E#8] = .ok (.adcAAtHl, 1) ∧
      decode [0xCE#8, 0xF0#8] = .ok (.adcAN 0xF0#8, 2) ∧
      decode [0x91#8] = .ok (.subS .c, 1) ∧
      decode [0x96#8] = .ok (.subAtHl, 1) ∧
      decode [0xD6#8, 0xF3#8] = .ok (.subN 0xF3#8, 2) ∧
      decode [0x9B#8] = .ok (.sbcAS .e, 1) ∧
      decode [0x9E#8] = .ok (.sbcAAtHl, 1) ∧
      decode [0xDE#8, 0xF6#8] = .ok (.sbcAN 0xF6#8, 2) ∧
      decode [0xA5#8] = .ok (.andS .l, 1) ∧
      decode [0xA6#8] = .ok (.andAtHl, 1) := by
  decide

theorem test_decode_base_5 :
    decode [0xE6#8, 0xF9#8] = .ok (.andN 0xF9#8, 2) ∧
      decode [0xA8#8] = .ok (.xorS .b, 1) ∧
      decode [0xAE#8] = .ok (.xorAtHl, 1) ∧
      decode [0xEE#8, 0xFC#8] = .ok (.xorN 0xFC#8, 2) ∧
      decode [0xB2#8] = .ok (.orS .d, 1) ∧
      decode [0xB6#8] = .ok (.orAtHl, 1) ∧
      decode [0xF6#8, 0xFF#8] = .ok (.orN 0xFF#8, 2) ∧
      decode [0xBC#8] = .ok (.cpS .h, 1) ∧
      decode [0xBE#8] = .ok (.cpAtHl, 1) ∧
      decode [0xFE#8, 0xC2#8] = .ok (.cpN 0xC2#8, 2) ∧
      decode [0xD0#8] = .ok (.retCc .nc, 1) ∧
      decode [0xD1#8] = .ok (.popRp2 .de, 1) ∧
      decode [0xC2#8, 0x55#8, 0xE5#8] = .ok (.jpCcNn .nz 0xE555#16, 3) ∧
      decode [0xC3#8, 0x56#8, 0xE6#8] = .ok (.jpNn 0xE656#16, 3) := by
  decide

theorem test_decode_base_6 :
    decode [0xD3#8, 0xC7#8] = .ok (.outAtNA 0xC7#8, 2) ∧
      decode [0xDB#8, 0xC8#8] = .ok (.inAAtN 0xC8#8, 2) ∧
      decode [0xE3#8] = .ok (.exAtSpHl, 1) ∧
      decode [0xFC#8, 0x5A#8, 0xEA#8] = .ok (.callCcNn .m 0xEA5A#16, 3) ∧
      decode [0xE5#8] = .ok (.pushRp2 .hl, 1) ∧
      decode [0xCD#8, 0x5C#8, 0xEC#8] = .ok (.callNn 0xEC5C#16, 3) ∧
      decode [0xC7#8] = .ok (.rstP 0, 1) ∧
      decode [0xCB#8] = .ok (.prefixCb, 1) ∧
      decode [0xED#8] = .ok (.prefixEd, 1) ∧
      decode [0xDD#8] = .ok (.prefixDd, 1) ∧
      decode [0xFD#8] = .ok (.prefixFd, 1) := by
  decide

theorem test_decode_CB_1 :
    decode [0xCB#8, 0x02#8] = .ok (.rlcR .d, 2) ∧
      decode [0xCB#8, 0x06#8] = .ok (.rlcAtHl, 2) ∧
      decode [0xCB#8, 0x09#8] = .ok (.rrcR .c, 2) ∧
      decode [0xCB#8, 0x0E#8] = .ok (.rrcAtHl, 2) ∧
      decode [0xCB#8, 0x10#8] = .ok (.rlR .b, 2) ∧
      decode [0xCB#8, 0x16#8] = .ok (.rlAtHl, 2) ∧
      decode [0xCB#8, 0x1F#8] = .ok (.rrR .a, 2) ∧
      decode [0xCB#8, 0x1E#8] = .ok (.rrAtHl, 2) ∧
      decode [0xCB#8, 0x25#8] = .ok (.slaR .l, 2) ∧
      decode [0xCB#8, 0x26#8] = .ok (.slaAtHl, 2) ∧
      decode [0xCB#8, 0x2C#8] = .ok (.sraR .h, 2) ∧
      decode [0xCB#8, 0x2E#8] = .ok (.sraAtHl, 2) ∧
      decode [0xCB#8, 0x33#8] = .ok (.sllR .e, 2) ∧
      decode [0xCB#8, 0x36#8] = .ok (.sllAtHl, 2) := by
  decide

theorem test_decode_CB_2 :
    decode [0xCB#8, 0x3A#8] = .ok (.srlR .d, 2) ∧
      decode [0xCB#8, 0x3E#8] = .ok (.srlAtHl, 2) ∧
      decode [0xCB#8, 0x79#8] = .ok (.bitBR 7 .c, 2) ∧
      decode [0xCB#8, 0x56#8] = .ok (.bitBAtHl 2, 2) ∧
      decode [0xCB#8, 0xA8#8] = .ok (.resBR 5 .b, 2) ∧
      decode [0xCB#8, 0x86#8] = .ok (.resBAtHl 0, 2) ∧
      decode [0xCB#8, 0xDF#8] = .ok (.setBR 3 .a, 2) ∧
      decode [0xCB#8, 0xF6#8] = .ok (.setBAtHl 6, 2) := by
  decide

theorem test_decode_ED_1 :
    decode [0xED#8, 0x68#8] = .ok (.inRAtC .l, 2) ∧
      decode [0xED#8, 0x70#8] = .ok (.inFAtC, 2) ∧
      decode [0xED#8, 0x61#8] = .ok (.outAtCR .h, 2) ∧
      decode [0xED#8, 0x71#8] = .ok (.outAtC0, 2) ∧
      decode [0xED#8, 0x52#8] = .ok (.sbcHlRp .de, 2) ∧
      decode [0xED#8, 0x4A#8] = .ok (.adcHlRp .bc, 2) ∧
      decode [0xED#8, 0x53#8, 0x7E#8, 0xB4#8] = .ok (.ldAtNnRp 0xB47E#16 .de, 4) ∧
      decode [0xED#8, 0x63#8, 0x7F#8, 0xB5#8] = .ok (.ldAtNnHlEd 0xB57F#16, 4) ∧
      decode [0xED#8, 0x5B#8, 0x80#8, 0xB6#8] = .ok (.ldRpAtNn .de 0xB680#16, 4) ∧
      decode [0xED#8, 0x6B#8, 0x81#8, 0xB7#8] = .ok (.ldHlAtNnEd 0xB781#16, 4) ∧
      decode [0xED#8, 0x44#8] = .ok (.neg, 2) ∧
      decode [0xED#8, 0x64#8] = .ok (.negMirror 4, 2) ∧
      decode [0xED#8, 0x45#8] = .ok (.retn, 2) ∧
      decode [0xED#8, 0x75#8] = .ok (.retnMirror 6, 2) := by
  decide

theorem test_decode_ED_2 :
    decode [0xED#8, 0x4D#8] = .ok (.reti, 2) ∧
      decode [0xED#8, 0x46#8] = .ok (.im0, 2) ∧
      decode [0xED#8, 0x66#8] = .ok (.im0Mirror, 2) ∧
      decode [0xED#8, 0x56#8] = .ok (.im1, 2) ∧
      decode [0xED#8, 0x76#8] = .ok (.im1Mirror, 2) ∧
      decode [0xED#8, 0x5E#8] = .ok (.im2, 2) ∧
      decode [0xED#8, 0x7E#8] = .ok (.im2Mirror, 2) ∧
      decode [0xED#8, 0x4E#8] = .ok (.im01 false, 2) ∧
      decode [0xED#8, 0x47#8] = .ok (.ldIA, 2) ∧
      decode [0xED#8, 0x4F#8] = .ok (.ldRA, 2) ∧
      decode [0xED#8, 0x57#8] = .ok (.ldAI, 2) ∧
      decode [0xED#8, 0x5F#8] = .ok (.ldAR, 2) ∧
      decode [0xED#8, 0x67#8] = .ok (.rrd, 2) ∧
      decode [0xED#8, 0x6F#8] = .ok (.rld, 2) := by
  decide

theorem test_decode_ED_3 :
    decode [0xED#8, 0x7F#8] = .ok (.nopEd7 true, 2) ∧
      decode [0xED#8, 0xA0#8] = .ok (.ldi, 2) ∧
      decode [0xED#8, 0xA1#8] = .ok (.cpi, 2) ∧
      decode [0xED#8, 0xA2#8] = .ok (.ini, 2) ∧
      decode [0xED#8, 0xA3#8] = .ok (.outi, 2) ∧
      decode [0xED#8, 0xA8#8] = .ok (.ldd, 2) ∧
      decode [0xED#8, 0xA9#8] = .ok (.cpd, 2) ∧
      decode [0xED#8, 0xAA#8] = .ok (.ind, 2) ∧
      decode [0xED#8, 0xAB#8] = .ok (.outd, 2) ∧
      decode [0xED#8, 0xB0#8] = .ok (.ldir, 2) ∧
      decode [0xED#8, 0xB1#8] = .ok (.cpir, 2) ∧
      decode [0xED#8, 0xB2#8] = .ok (.inir, 2) ∧
      decode [0xED#8, 0xB3#8] = .ok (.otir, 2) ∧
      decode [0xED#8, 0xB8#8] = .ok (.lddr, 2) := by
  decide

theorem test_decode_ED_4 :
    decode [0xED#8, 0xB9#8] = .ok (.cpdr, 2) ∧
      decode [0xED#8, 0xBA#8] = .ok (.indr, 2) ∧
      decode [0xED#8, 0xBB#8] = .ok (.otdr, 2) ∧
      decode [0xED#8, 0xA4#8] = .ok (.nopEd 0xA4#8, 2) := by
  decide

theorem test_decode_DD_1 :
    decode [0xDD#8, 0x39#8] = .ok (.addIxRp .sp, 2) ∧
      decode [0xDD#8, 0x21#8, 0xA7#8, 0xDD#8] = .ok (.ldIxNn 0xDDA7#16, 4) ∧
      decode [0xDD#8, 0x22#8, 0xA8#8, 0xDE#8] = .ok (.ldAtNnIx 0xDEA8#16, 4) ∧
      decode [0xDD#8, 0x2A#8, 0xA9#8, 0xDF#8] = .ok (.ldIxAtNn 0xDFA9#16, 4) ∧
      decode [0xDD#8, 0x23#8] = .ok (.incIx, 2) ∧
      decode [0xDD#8, 0x2B#8] = .ok (.decIx, 2) ∧
      decode [0xDD#8, 0x2C#8] = .ok (.incIxHalf .low, 2) ∧
      decode [0xDD#8, 0x25#8] = .ok (.decIxHalf .high, 2) ∧
      decode [0xDD#8, 0x2E#8, 0xDE#8] = .ok (.ldIxHalfN .low 0xDE#8, 3) ∧
      decode [0xDD#8, 0x34#8, 0xD9#8] = .ok (.incAtIxd 0xD9#8, 3) ∧
      decode [0xDD#8, 0x35#8, 0xE0#8] = .ok (.decAtIxd 0xE0#8, 3) ∧
      decode [0xDD#8, 0x36#8, 0xE7#8, 0xE1#8] = .ok (.ldAtIxdN 0xE7#8 0xE1#8, 4) ∧
      decode [0xDD#8, 0x66#8, 0xEE#8] = .ok (.ldRAtIxd .h 0xEE#8, 3) ∧
      decode [0xDD#8, 0x70#8, 0xF5#8] = .ok (.ldAtIxdS 0xF5#8 .b, 3) := by
  decide

theorem test_decode_DD_2 :
    decode [0xDD#8, 0x54#8] = .ok (.ldRSIxHalf .d .xh, 2) ∧
      decode [0xDD#8, 0x84#8] = .ok (.addAIxHalf .high, 2) ∧
      decode [0xDD#8, 0x86#8, 0x8A#8] = .ok (.addAAtIxd 0x8A#8, 3) ∧
      decode [0xDD#8, 0x8C#8] = .ok (.adcAIxHalf .high, 2) ∧
      decode [0xDD#8, 0x8E#8, 0x98#8] = .ok (.adcAAtIxd 0x98#8, 3) ∧
      decode [0xDD#8, 0x94#8] = .ok (.subIxHalf .high, 2) ∧
      decode [0xDD#8, 0x96#8, 0xA6#8] = .ok (.subAtIxd 0xA6#8, 3) ∧
      decode [0xDD#8, 0x9C#8] = .ok (.sbcAIxHalf .high, 2) ∧
      decode [0xDD#8, 0x9E#8, 0xB4#8] = .ok (.sbcAAtIxd 0xB4#8, 3) ∧
      decode [0xDD#8, 0xA4#8] = .ok (.andIxHalf .high, 2) ∧
      decode [0xDD#8, 0xA6#8, 0xC2#8] = .ok (.andAtIxd 0xC2#8, 3) ∧
      decode [0xDD#8, 0xAC#8] = .ok (.xorIxHalf .high, 2) ∧
      decode [0xDD#8, 0xAE#8, 0xD0#8] = .ok (.xorAtIxd 0xD0#8, 3) ∧
      decode [0xDD#8, 0xB4#8] = .ok (.orIxHalf .high, 2) := by
  decide

theorem test_decode_DD_3 :
    decode [0xDD#8, 0xB6#8, 0xDE#8] = .ok (.orAtIxd 0xDE#8, 3) ∧
      decode [0xDD#8, 0xBC#8] = .ok (.cpIxHalf .high, 2) ∧
      decode [0xDD#8, 0xBE#8, 0xEC#8] = .ok (.cpAtIxd 0xEC#8, 3) ∧
      decode [0xDD#8, 0xE1#8] = .ok (.popIx, 2) ∧
      decode [0xDD#8, 0xE3#8] = .ok (.exAtSpIx, 2) ∧
      decode [0xDD#8, 0xE5#8] = .ok (.pushIx, 2) ∧
      decode [0xDD#8, 0xE9#8] = .ok (.jpIx, 2) ∧
      decode [0xDD#8, 0xF9#8] = .ok (.ldSpIx, 2) ∧
      decode [0xDD#8, 0xCB#8] = .ok (.prefixDdCb, 2) ∧
      decode [0xDD#8, 0xED#8] = .ok (.ignoredDd .ed, 1) ∧
      decode [0xDD#8, 0xCD#8, 0x34#8, 0x12#8] = .ok (.ddUnprefixed (.callNn 0x1234#16), 4) := by
  decide

theorem test_decode_FD_1 :
    decode [0xFD#8, 0x09#8] = .ok (.addIyRp .bc, 2) ∧
      decode [0xFD#8, 0x21#8, 0xCE#8, 0xAA#8] = .ok (.ldIyNn 0xAACE#16, 4) ∧
      decode [0xFD#8, 0x22#8, 0xCF#8, 0xAB#8] = .ok (.ldAtNnIy 0xABCF#16, 4) ∧
      decode [0xFD#8, 0x2A#8, 0xD0#8, 0xAC#8] = .ok (.ldIyAtNn 0xACD0#16, 4) ∧
      decode [0xFD#8, 0x23#8] = .ok (.incIy, 2) ∧
      decode [0xFD#8, 0x2B#8] = .ok (.decIy, 2) ∧
      decode [0xFD#8, 0x24#8] = .ok (.incIyHalf .high, 2) ∧
      decode [0xFD#8, 0x2D#8] = .ok (.decIyHalf .low, 2) ∧
      decode [0xFD#8, 0x26#8, 0xC5#8] = .ok (.ldIyHalfN .high 0xC5#8, 3) ∧
      decode [0xFD#8, 0x34#8, 0xEA#8] = .ok (.incAtIyd 0xEA#8, 3) ∧
      decode [0xFD#8, 0x35#8, 0xF1#8] = .ok (.decAtIyd 0xF1#8, 3) ∧
      decode [0xFD#8, 0x36#8, 0xF8#8, 0xC8#8] = .ok (.ldAtIydN 0xF8#8 0xC8#8, 4) ∧
      decode [0xFD#8, 0x56#8, 0xFF#8] = .ok (.ldRAtIyd .d 0xFF#8, 3) ∧
      decode [0xFD#8, 0x75#8, 0x86#8] = .ok (.ldAtIydS 0x86#8 .l, 3) := by
  decide

theorem test_decode_FD_2 :
    decode [0xFD#8, 0x5D#8] = .ok (.ldRSIyHalf .e .xl, 2) ∧
      decode [0xFD#8, 0x85#8] = .ok (.addAIyHalf .low, 2) ∧
      decode [0xFD#8, 0x86#8, 0x9B#8] = .ok (.addAAtIyd 0x9B#8, 3) ∧
      decode [0xFD#8, 0x8D#8] = .ok (.adcAIyHalf .low, 2) ∧
      decode [0xFD#8, 0x8E#8, 0xA9#8] = .ok (.adcAAtIyd 0xA9#8, 3) ∧
      decode [0xFD#8, 0x95#8] = .ok (.subIyHalf .low, 2) ∧
      decode [0xFD#8, 0x96#8, 0xB7#8] = .ok (.subAtIyd 0xB7#8, 3) ∧
      decode [0xFD#8, 0x9D#8] = .ok (.sbcAIyHalf .low, 2) ∧
      decode [0xFD#8, 0x9E#8, 0xC5#8] = .ok (.sbcAAtIyd 0xC5#8, 3) ∧
      decode [0xFD#8, 0xA5#8] = .ok (.andIyHalf .low, 2) ∧
      decode [0xFD#8, 0xA6#8, 0xD3#8] = .ok (.andAtIyd 0xD3#8, 3) ∧
      decode [0xFD#8, 0xAD#8] = .ok (.xorIyHalf .low, 2) ∧
      decode [0xFD#8, 0xAE#8, 0xE1#8] = .ok (.xorAtIyd 0xE1#8, 3) ∧
      decode [0xFD#8, 0xB5#8] = .ok (.orIyHalf .low, 2) := by
  decide

theorem test_decode_FD_3 :
    decode [0xFD#8, 0xB6#8, 0xEF#8] = .ok (.orAtIyd 0xEF#8, 3) ∧
      decode [0xFD#8, 0xBD#8] = .ok (.cpIyHalf .low, 2) ∧
      decode [0xFD#8, 0xBE#8, 0xFD#8] = .ok (.cpAtIyd 0xFD#8, 3) ∧
      decode [0xFD#8, 0xE1#8] = .ok (.popIy, 2) ∧
      decode [0xFD#8, 0xE3#8] = .ok (.exAtSpIy, 2) ∧
      decode [0xFD#8, 0xE5#8] = .ok (.pushIy, 2) ∧
      decode [0xFD#8, 0xE9#8] = .ok (.jpIy, 2) ∧
      decode [0xFD#8, 0xF9#8] = .ok (.ldSpIy, 2) ∧
      decode [0xFD#8, 0xCB#8] = .ok (.prefixFdCb, 2) ∧
      decode [0xFD#8, 0xDD#8] = .ok (.ignoredFd .dd, 1) ∧
      decode [0xFD#8, 0x20#8, 0xFE#8] = .ok (.fdUnprefixed (.jrCcE .nz 0xFE#8), 3) := by
  decide

theorem test_decode_DDCB_1 :
    decode [0xDD#8, 0xCB#8, 0xBC#8, 0x06#8] = .ok (.rlcAtIxd 0xBC#8, 4) ∧
      decode [0xDD#8, 0xCB#8, 0xC3#8, 0x02#8] = .ok (.ldRRlcAtIxd 0xC3#8 .d, 4) ∧
      decode [0xDD#8, 0xCB#8, 0xCA#8, 0x0E#8] = .ok (.rrcAtIxd 0xCA#8, 4) ∧
      decode [0xDD#8, 0xCB#8, 0xD1#8, 0x09#8] = .ok (.ldRRrcAtIxd 0xD1#8 .c, 4) ∧
      decode [0xDD#8, 0xCB#8, 0xD8#8, 0x16#8] = .ok (.rlAtIxd 0xD8#8, 4) ∧
      decode [0xDD#8, 0xCB#8, 0xDF#8, 0x10#8] = .ok (.ldRRlAtIxd 0xDF#8 .b, 4) ∧
      decode [0xDD#8, 0xCB#8, 0xE6#8, 0x1E#8] = .ok (.rrAtIxd 0xE6#8, 4) ∧
      decode [0xDD#8, 0xCB#8, 0xED#8, 0x1F#8] = .ok (.ldRRrAtIxd 0xED#8 .a, 4) ∧
      decode [0xDD#8, 0xCB#8, 0xF4#8, 0x26#8] = .ok (.slaAtIxd 0xF4#8, 4) ∧
      decode [0xDD#8, 0xCB#8, 0xFB#8, 0x25#8] = .ok (.ldRSlaAtIxd 0xFB#8 .l, 4) ∧
      decode [0xDD#8, 0xCB#8, 0x82#8, 0x2E#8] = .ok (.sraAtIxd 0x82#8, 4) ∧
      decode [0xDD#8, 0xCB#8, 0x89#8, 0x2C#8] = .ok (.ldRSraAtIxd 0x89#8 .h, 4) ∧
      decode [0xDD#8, 0xCB#8, 0x90#8, 0x36#8] = .ok (.sllAtIxd 0x90#8, 4) ∧
      decode [0xDD#8, 0xCB#8, 0x97#8, 0x33#8] = .ok (.ldRSllAtIxd 0x97#8 .e, 4) := by
  decide

theorem test_decode_DDCB_2 :
    decode [0xDD#8, 0xCB#8, 0x9E#8, 0x3E#8] = .ok (.srlAtIxd 0x9E#8, 4) ∧
      decode [0xDD#8, 0xCB#8, 0xA5#8, 0x3A#8] = .ok (.ldRSrlAtIxd 0xA5#8 .d, 4) ∧
      decode [0xDD#8, 0xCB#8, 0xAC#8, 0x6E#8] = .ok (.bitBAtIxd 5 0xAC#8, 4) ∧
      decode [0xDD#8, 0xCB#8, 0xB3#8, 0x41#8] = .ok (.bitBAtIxdMirror 0 0xB3#8 .c, 4) ∧
      decode [0xDD#8, 0xCB#8, 0xBA#8, 0x9E#8] = .ok (.resBAtIxd 3 0xBA#8, 4) ∧
      decode [0xDD#8, 0xCB#8, 0xC1#8, 0xB0#8] = .ok (.ldRResBAtIxd 6 0xC1#8 .b, 4) ∧
      decode [0xDD#8, 0xCB#8, 0xC8#8, 0xCE#8] = .ok (.setBAtIxd 1 0xC8#8, 4) ∧
      decode [0xDD#8, 0xCB#8, 0xCF#8, 0xE7#8] = .ok (.ldRSetBAtIxd 4 0xCF#8 .a, 4) := by
  decide

theorem test_decode_FDCB_1 :
    decode [0xFD#8, 0xCB#8, 0xD6#8, 0x06#8] = .ok (.rlcAtIyd 0xD6#8, 4) ∧
      decode [0xFD#8, 0xCB#8, 0xDD#8, 0x05#8] = .ok (.ldRRlcAtIyd 0xDD#8 .l, 4) ∧
      decode [0xFD#8, 0xCB#8, 0xE4#8, 0x0E#8] = .ok (.rrcAtIyd 0xE4#8, 4) ∧
      decode [0xFD#8, 0xCB#8, 0xEB#8, 0x0C#8] = .ok (.ldRRrcAtIyd 0xEB#8 .h, 4) ∧
      decode [0xFD#8, 0xCB#8, 0xF2#8, 0x16#8] = .ok (.rlAtIyd 0xF2#8, 4) ∧
      decode [0xFD#8, 0xCB#8, 0xF9#8, 0x13#8] = .ok (.ldRRlAtIyd 0xF9#8 .e, 4) ∧
      decode [0xFD#8, 0xCB#8, 0x80#8, 0x1E#8] = .ok (.rrAtIyd 0x80#8, 4) ∧
      decode [0xFD#8, 0xCB#8, 0x87#8, 0x1A#8] = .ok (.ldRRrAtIyd 0x87#8 .d, 4) ∧
      decode [0xFD#8, 0xCB#8, 0x8E#8, 0x26#8] = .ok (.slaAtIyd 0x8E#8, 4) ∧
      decode [0xFD#8, 0xCB#8, 0x95#8, 0x21#8] = .ok (.ldRSlaAtIyd 0x95#8 .c, 4) ∧
      decode [0xFD#8, 0xCB#8, 0x9C#8, 0x2E#8] = .ok (.sraAtIyd 0x9C#8, 4) ∧
      decode [0xFD#8, 0xCB#8, 0xA3#8, 0x28#8] = .ok (.ldRSraAtIyd 0xA3#8 .b, 4) ∧
      decode [0xFD#8, 0xCB#8, 0xAA#8, 0x36#8] = .ok (.sllAtIyd 0xAA#8, 4) ∧
      decode [0xFD#8, 0xCB#8, 0xB1#8, 0x37#8] = .ok (.ldRSllAtIyd 0xB1#8 .a, 4) := by
  decide

theorem test_decode_FDCB_2 :
    decode [0xFD#8, 0xCB#8, 0xB8#8, 0x3E#8] = .ok (.srlAtIyd 0xB8#8, 4) ∧
      decode [0xFD#8, 0xCB#8, 0xBF#8, 0x3D#8] = .ok (.ldRSrlAtIyd 0xBF#8 .l, 4) ∧
      decode [0xFD#8, 0xCB#8, 0xC6#8, 0x7E#8] = .ok (.bitBAtIyd 7 0xC6#8, 4) ∧
      decode [0xFD#8, 0xCB#8, 0xCD#8, 0x54#8] = .ok (.bitBAtIydMirror 2 0xCD#8 .h, 4) ∧
      decode [0xFD#8, 0xCB#8, 0xD4#8, 0xAE#8] = .ok (.resBAtIyd 5 0xD4#8, 4) ∧
      decode [0xFD#8, 0xCB#8, 0xDB#8, 0x83#8] = .ok (.ldRResBAtIyd 0 0xDB#8 .e, 4) ∧
      decode [0xFD#8, 0xCB#8, 0xE2#8, 0xDE#8] = .ok (.setBAtIyd 3 0xE2#8, 4) ∧
      decode [0xFD#8, 0xCB#8, 0xE9#8, 0xF2#8] = .ok (.ldRSetBAtIyd 6 0xE9#8 .d, 4) := by
  decide


/-! ## Witnesses for the hypotheses of the statements -/

/-- Whether a write fails, and how, does not depend on the byte written. -/
theorem writeFails_of (s : State) (a : Word) (e : AccessError) (h : s.bus.write s.mem a 0#8 = .error e) :
    WriteFails s a e := by
  intro v
  unfold AddressSpace.write Component.write at *
  split at h
  · split at h
    · split at h <;> simp_all
    · simp_all
  · simp_all

/-- The accesses of an instruction, as a check that evaluates. -/
theorem accessible_of (i : Instr) (s : State)
    (h : (∀ a ∈ reads i s, (s.peek a).toOption.isSome = true) ∧ ∀ a ∈ writes i s, s.writable a = true) : Accessible i s := by
  refine ⟨fun a ha => ?_, h.2⟩
  have := h.1 a ha
  unfold Reads
  cases hp : s.peek a with
  | ok v => exact ⟨v, rfl⟩
  | error e => simp [hp, Except.toOption] at this

theorem exists_left (s : State) (h : (leaves (step s)).isSome = true) : ∃ t, leaves (step s) = some t :=
  Option.isSome_iff_exists.mp h

/-- The state with an instruction's encoding at PC. -/
def codeOf (pc : Word) (i : Instr) : State := code pc (encode i)

/-- The step fetches no instruction: one of its bytes cannot be read. -/
def fetchFails (s : State) : Bool :=
  match fetchInstr s.beginStep with
  | .ok _ => false
  | .error _ => true

theorem exists_fetch_fault (s : State) (h : fetchFails s = true) : ∃ e, fetchInstr s.beginStep = .error e := by
  unfold fetchFails at h
  split at h <;> simp_all

/-- The instruction faults. -/
def stops (i : Instr) (s : State) : Bool :=
  match exec i s with
  | .next _ => false
  | .fault _ => true
  | .refused _ => false

theorem exists_fault (i : Instr) (s : State) (h : stops i s = true) : ∃ e, exec i s = .fault e := by
  unfold stops at h
  split at h <;> simp_all

/-- The state with an interrupt request at its next step. -/
def asking (s : State) (nmi int : Bool) (bus : Byte) : State :=
  { s with inputs := [{ nmiEdge := nmi, intLine := int, busByte := bus }] }

/-- A state that accepts INT. -/
def enabled (s : State) (im : InterruptMode) : State := { s with iff1 := true, iff2 := true, im := im }

/-- Every address operand is `p`. -/
abbrev Points (s : State) (p : Word) : Prop :=
  s.hl = p ∧ s.bc = p ∧ s.de = p ∧ s.sp = p ∧ indexed s .ix 0x00#8 = p ∧ indexed s .iy 0x00#8 = p

theorem witness_DecodeOfEncodeIsTheInstruction :
    (Instr.ldRpAtNn .sp 0xFFFF#16).wf = true ∧ (Instr.retnMirror 7).wf = true ∧ (Instr.nopEd 0xFF#8).wf = true ∧
      (Instr.ldRSIyHalf .xl .a).wf = true ∧ (Instr.ddUnprefixed (.rstP 7)).wf = true ∧ Instr.prefixFdCb.wf = true := by decide

theorem witness_DecodeReadsItsEncoding :
    decode [0xFD#8, 0xCB#8, 0x80#8, 0xFF#8, 0x00#8] = .ok (.ldRSetBAtIyd 7 0x80#8 .a, 4) ∧
      decode [0x00#8] = .ok (.nop, 1) := by decide

theorem witness_EverySequenceDecodes :
    4 ≤ [0xDD#8, 0xDD#8, 0xDD#8, 0xDD#8].length ∧ State.reset.params.undocPolicy = .execute := by decide

theorem witness_StepRunsTheDecodedInstruction :
    (let s := codeOf 0xFFFE#16 (.jpNn 0xABCD#16);
      stepKind s.nextInput s.beginStep = .instruction ∧ (Instr.jpNn 0xABCD#16).wf = true ∧
        (Instr.jpNn 0xABCD#16).isPrefixRow = false ∧ s.params.undocPolicy = .execute ∧
        BytesAt s s.pc (encode (.jpNn 0xABCD#16))) ∧
      let s : State := { codeOf 0x7FFD#16 (.ldAtIxdN 0x80#8 0xFF#8) with
        bus := mixedBus, params := { cpuVariant := .cmos, undocPolicy := .fault, outC0 := none } };
      stepKind s.nextInput s.beginStep = .instruction ∧ (Instr.ldAtIxdN 0x80#8 0xFF#8).documented = true ∧
        BytesAt { s with pc := 0x7FFC#16, mem := placeBytes [] 0x7FFC#16 (encode (.ldAtIxdN 0x80#8 0xFF#8)) } 0x7FFC#16
          (encode (.ldAtIxdN 0x80#8 0xFF#8)) := by decide

theorem witness_StepKeepsMemoryForm :
    let s := holding (code 0x0000#16 [0x32#8, 0x00#8, 0x80#8]) [(0x8000, 0x01#8), (0xFFFF, 0x02#8)]
    InvMemory s ∧ ∃ t, step s = .next t :=
  ⟨by decide, exists_next _ (by decide)⟩

theorem witness_StepKeepsControlBits :
    (let s : State := { codeOf 0x0000#16 .reti with iff1 := true, iff2 := true, intBlock := .intOnly };
      InvControl s ∧ ∃ t, step s = .next t) ∧
      let s : State := { codeOf 0x0000#16 .halt with ldAir := true }
      InvControl s ∧ ∃ t, step s = .next t :=
  ⟨⟨by decide, exists_next _ (by decide)⟩, by decide, exists_next _ (by decide)⟩

theorem witness_StepKeepsBusAndRom :
    (let s : State := { codeOf 0x4000#16 (.ldAtNnA 0x7FFF#16) with bus := mixedBus };
      (∃ t, leaves (step s) = some t) ∧ s.writable 0x3FFF#16 = false ∧ s.writable 0x8000#16 = false) ∧
      let s : State := { codeOf 0x4000#16 (.ldAtNnA 0x3FFF#16) with bus := mixedBus }
      (∃ t, leaves (step s) = some t) ∧ s.writable 0x9800#16 = false :=
  ⟨⟨exists_left _ (by decide), by decide⟩, exists_left _ (by decide), by decide⟩

theorem witness_RefreshCountsOpcodeFetches :
    (∃ t, step (codeOf 0xFFFF#16 (.bitBAtIxd 0 0x00#8)) = .next t) ∧
      stepKind HostInput.idle (codeOf 0xFFFF#16 (.bitBAtIxd 0 0x00#8)).beginStep = .instruction ∧
      (∃ t, step (codeOf 0x0000#16 .ldRA) = .next t) ∧
      (∃ t, step { State.reset with halted := true } = .next t) ∧
      stepKind HostInput.idle { State.reset with halted := true } = .haltedCycle ∧
      ((Instr.ignoredDd .fd).length = 1 ∧ (Instr.ldRA).length = 2 ∧ (Instr.jrE 0#8).length = 2) :=
  ⟨exists_next _ (by decide), by decide, exists_next _ (by decide), exists_next _ (by decide), by decide, by decide⟩

theorem witness_AlternatesMoveOnlyByExchange :
    Instr.exDeHl.isPrefixRow = false ∧ unwrap .exDeHl ≠ .exAfAf ∧ unwrap .exDeHl ≠ .exx ∧
      ∃ t, exec .exDeHl State.reset = .next t :=
  ⟨by decide, by decide, by decide, exists_exec _ _ (by decide)⟩

theorem witness_ControlStateHasFewWriters :
    (Instr.ddUnprefixed (.ldRS .a .b)).isPrefixRow = false ∧ unwrap (.ddUnprefixed (.ldRS .a .b)) ≠ .ei ∧
      unwrap (.ddUnprefixed (.ldRS .a .b)) ≠ .di ∧ unwrap (.ddUnprefixed (.ldRS .a .b)) ≠ .halt ∧
      (∀ y, Instr.ddUnprefixed (.ldRS .a .b) ≠ .retnMirror y) ∧
      Instr.ddUnprefixed (.ldRS .a .b) ∉ [.im0, .im0Mirror, .im1, .im1Mirror, .im2, .im2Mirror, .im01 false, .im01 true] ∧
      (∃ t, exec (.ddUnprefixed (.ldRS .a .b)) State.reset = .next t) ∧ ∃ t, exec .reti State.reset = .next t :=
  ⟨by decide, by decide, by decide, by decide, by decide, by decide, exists_exec _ _ (by decide), exists_exec _ _ (by decide)⟩

theorem witness_NmiAcceptance :
    (let s := asking (pointing 0x4002#16) true false 0xFF#8;
      s.nextInput.nmiEdge = true ∧ s.intBlock ≠ .all ∧ s.writable (s.sp - 1#16) = true ∧ s.writable (s.sp - 2#16) = true) ∧
      (let s : State := { pointing 0x4000#16 with nmiPending := true, intBlock := .intOnly };
        s.nmiPending = true ∧ s.intBlock ≠ .all ∧ WriteFails s (s.sp - 1#16) (.readOnly 0x3FFF#16)) ∧
      let s : State := { pointing 0x4001#16 with nmiPending := true }
      s.nmiPending = true ∧ s.writable (s.sp - 1#16) = true ∧ WriteFails s (s.sp - 2#16) (.readOnly 0x3FFF#16) :=
  ⟨by decide, ⟨by decide, by decide, writeFails_of _ _ _ (by decide)⟩, by decide, by decide, writeFails_of _ _ _ (by decide)⟩

theorem witness_IntAcceptanceInModes0And1 :
    (∀ s ∈ [enabled (asking (pointing 0x4002#16) false true 0x00#8) .im1, enabled (asking (pointing 0x4002#16) false true 0xC7#8) .im0,
        enabled (asking (pointing 0x4002#16) false true 0xFF#8) .im0, enabled (asking (pointing 0x4002#16) false true 0xBF#8) .im0,
        enabled (asking (pointing 0x4002#16) false true 0xFE#8) .im0],
      s.nmiPending = false ∧ s.nextInput.nmiEdge = false ∧ s.nextInput.intLine = true ∧ s.iff1 = true ∧ s.intBlock = .none ∧
        s.writable (s.sp - 1#16) = true ∧ s.writable (s.sp - 2#16) = true) ∧
      ((0xC7 % 8 = 7 ∧ 0xC0 ≤ 0xC7) ∧ (0xFF % 8 = 7 ∧ 0xC0 ≤ 0xFF) ∧ ¬(0xBF % 8 = 7 ∧ 0xC0 ≤ 0xBF) ∧
        ¬(0xFE % 8 = 7 ∧ 0xC0 ≤ 0xFE)) ∧
      (let s : State := { enabled (asking (pointing 0x4000#16) false true 0xFF#8) .im0 with ldAir := true };
        s.iff1 = true ∧ s.intBlock = .none ∧ WriteFails s (s.sp - 1#16) (.readOnly 0x3FFF#16)) ∧
      let s := enabled (asking (pointing 0x4001#16) false true 0x00#8) .im1
      s.iff1 = true ∧ s.intBlock = .none ∧ s.writable (s.sp - 1#16) = true ∧ WriteFails s (s.sp - 2#16) (.readOnly 0x3FFF#16) :=
  ⟨by decide, by decide, ⟨by decide, by decide, writeFails_of _ _ _ (by decide)⟩, by decide, by decide, by decide,
    writeFails_of _ _ _ (by decide)⟩

theorem witness_IntAcceptanceInMode2 :
    (∀ s ∈ [{ enabled (asking (pointing 0x4002#16) false true 0x02#8) .im2 with i := 0x40#8 },
        { enabled (asking (pointing 0x4002#16) false true 0x00#8) .im2 with i := 0x80#8 },
        { enabled (asking (pointing 0x4002#16) false true 0xFF#8) .im2 with i := 0x7F#8 }],
      s.nmiPending = false ∧ s.nextInput.nmiEdge = false ∧ s.nextInput.intLine = true ∧ s.iff1 = true ∧ s.intBlock = .none ∧
        s.im = .im2 ∧ s.writable (s.sp - 1#16) = true ∧ s.writable (s.sp - 2#16) = true) ∧
      (let s := pointing 0x4002#16;
        let stack := [(s.sp - 1#16, hiByte s.pc), (s.sp - 2#16, loByte s.pc)]
        afterStores s stack 0x4002#16 = .ok 0x00#8 ∧ afterStores s stack 0x4003#16 = .ok 0x00#8 ∧
          afterStores s stack 0x8000#16 = .error (hole 0x8000#16) ∧ afterStores s stack 0x7FFF#16 = .ok 0x00#8) ∧
      (let s := enabled (asking (pointing 0x4000#16) false true 0x02#8) .im2;
        s.iff1 = true ∧ s.im = .im2 ∧ WriteFails s (s.sp - 1#16) (.readOnly 0x3FFF#16)) ∧
      let s := enabled (asking (pointing 0x4001#16) false true 0x02#8) .im2
      s.iff1 = true ∧ s.im = .im2 ∧ s.writable (s.sp - 1#16) = true ∧ WriteFails s (s.sp - 2#16) (.readOnly 0x3FFF#16) :=
  ⟨by decide, by decide, ⟨by decide, by decide, writeFails_of _ _ _ (by decide)⟩, by decide, by decide, by decide,
    writeFails_of _ _ _ (by decide)⟩

theorem witness_MaskedRequestsHaveNoEffect :
    let x : HostInput := { nmiEdge := false, intLine := true, busByte := 0x00#8 }
    let y : HostInput := { nmiEdge := false, intLine := false, busByte := 0xFF#8 }
    let z : HostInput := { nmiEdge := false, intLine := true, busByte := 0xFF#8 }
    (x.nmiEdge = y.nmiEdge ∧ State.reset.iff1 = false) ∧
      ({ State.reset with intBlock := .intOnly } : State).intBlock ≠ .none ∧
      (y.nmiEdge = HostInput.idle.nmiEdge ∧ y.intLine = false ∧ HostInput.idle.intLine = false) ∧
      ((enabled State.reset .im1).im = .im1 ∧ x.nmiEdge = z.nmiEdge ∧ x.intLine = z.intLine) ∧
      ({ State.reset with nmiPending := true } : State).nmiPending = true ∧ State.reset.intBlock ≠ .all := by decide

theorem witness_HaltedStep :
    (let s : State := { asking State.reset false true 0x00#8 with halted := true };
      s.halted = true ∧ NoAcceptance s) ∧
      let s : State := { asking State.reset true false 0x00#8 with halted := true, intBlock := .all, iff1 := true }
      s.halted = true ∧ NoAcceptance s := by decide

/-- What the next step is when INT is asked for and an NMI edge arrives or not. -/
def nextKind (t : State) (edge : Bool) : StepKind :=
  let u := asking t edge true 0xFF#8
  stepKind u.nextInput u.beginStep

theorem witness_HiddenBitsAtStepEnd :
    after (codeOf 0x0000#16 .ei) (fun t => t.iff1 && t.intBlock == .intOnly &&
        nextKind t true == .nmi && nextKind t false == .instruction) = true ∧
      after (codeOf 0x0000#16 (.fdUnprefixed .ei)) (fun t => t.intBlock == .intOnly) = true ∧
      after (enabled (code 0x0000#16 [0xFD#8, 0xDD#8]) .im1) (fun t => t.iff1 && t.intBlock == .all &&
        nextKind t true == .instruction && nextKind t false == .instruction) = true ∧
      after (codeOf 0x0000#16 .ldAR) (fun t => t.ldAir && t.intBlock == .none) = true := by decide

/-- The parameters under which an undocumented encoding faults. -/
def faultPolicy : Params := { cpuVariant := .nmos, undocPolicy := .fault, outC0 := none }

/-- Fetches that meet the unbound slot at 0x8000 after zero to three bytes, under either policy, and one that meets an undocumented
encoding. -/
theorem witness_FetchFaultKeepsTheRest :
    ∀ s ∈ [{ code 0x7FFF#16 [] with pc := 0x8000#16, bus := mixedBus }, { code 0x7FFF#16 [0xDD#8] with bus := mixedBus },
        { code 0x7FFE#16 [0xED#8, 0x43#8] with bus := mixedBus, params := faultPolicy },
        { code 0x7FFD#16 [0xDD#8, 0xCB#8, 0x00#8] with bus := mixedBus, params := faultPolicy },
        { code 0x0000#16 [0xCB#8, 0x30#8] with params := faultPolicy }],
      stepKind s.nextInput s.beginStep = .instruction ∧ ∃ e, fetchInstr s.beginStep = .error e := by
  intro s hs
  have h : stepKind s.nextInput s.beginStep = .instruction ∧ fetchFails s = true := by
    revert s
    decide
  exact ⟨h.1, exists_fetch_fault s h.2⟩

/-- The second clause: an undocumented instruction under the execute policy, a documented one under the fault policy, and an ignored
prefix whose byte looked at cannot be read. -/
theorem witness_FetchFaultKeepsTheRest_by_instruction :
    (let i := Instr.ldRRlcAtIxd 0x00#8 .b;
      let s : State := { code 0x7FFD#16 [0xDD#8, 0xCB#8, 0x00#8] with bus := mixedBus };
      i.wf = true ∧ i.isPrefixRow = false ∧ 3 < (encode i).length ∧ s.params.undocPolicy = .execute ∧
        BytesAt s s.pc ((encode i).take 3) ∧ s.peek (s.pc + 3#16) = .error (hole 0x8000#16)) ∧
      (let i := Instr.jpNn 0x1234#16;
        let s : State := { code 0x7FFE#16 [0xC3#8, 0x34#8] with bus := mixedBus, params := faultPolicy };
        i.documented = true ∧ 2 < (encode i).length ∧ BytesAt s s.pc ((encode i).take 2) ∧
          s.peek (s.pc + 2#16) = .error (hole 0x8000#16)) ∧
      let i := Instr.ignoredDd .fd
      let s : State := { code 0x7FFF#16 [0xDD#8] with bus := mixedBus, params := faultPolicy }
      1 < (encode i).length ∧ 1 < (idBytes i).length ∧ BytesAt s s.pc ((encode i).take 1) ∧
        s.peek (s.pc + 1#16) = .error (hole 0x8000#16) := by decide

theorem witness_UndocumentedEncodingFaults :
    ∀ i ∈ [Instr.sllR .b, .negMirror 7, .ignoredDd .ed, .ddUnprefixed (.jpNn 0x1234#16), .ldRRlcAtIyd 0xFF#8 .b, .ldIxHalfN .low 0x00#8],
      let s : State := { codeOf 0xFFFF#16 i with params := faultPolicy }
      let s := holding s [(0, (idBytes i).getD 1 0#8)]
      s.params.undocPolicy = .fault ∧ stepKind s.nextInput s.beginStep = .instruction ∧ i.wf = true ∧ i.isPrefixRow = false ∧
        i.documented = false ∧ BytesAt s s.pc (idBytes i) := by decide

theorem witness_AttachAndDetachBindSlots :
    let c (base size : Nat) : Component := { kind := .ram, base := base, size := size, image := [] }
    mixedBus.wf ∧ ¬(1 ≤ (c 0x8000 0).size ∧ (c 0x8000 0).base + (c 0x8000 0).size - 1 ≤ 0xFFFF) ∧
      ¬(0xE000 + 0x2001 - 1 ≤ 0xFFFF) ∧ (1 ≤ 1 ∧ 0xFFFF + 1 - 1 ≤ 0xFFFF) ∧ mixedBus.boundTo (0xFFFF / 0x1000) ≠ none ∧
      (∀ slot : Fin 16, 0x8000 / 0x1000 ≤ slot.val → slot.val ≤ (0x8000 + 0x1000 - 1) / 0x1000 → mixedBus.boundTo slot.val = none) ∧
      c 0x8000 0x1000 ∉ mixedBus.components ∧ c 0x4000 0x4000 ∈ mixedBus.components := by decide

/-- One address for each outcome of a bus access: unbound, RAM and ROM at both ends of a region, bound but outside the component. -/
theorem witness_RegionsCheckBoundsThenKind :
    mixedBus.boundTo (0x8000 / 0x1000) = none ∧
      (mixedBus.boundTo (0x3FFF / 0x1000)).map (fun c => (c.kind, c.base, c.size)) = some (.rom, 0x0000, 0x4000) ∧
      (mixedBus.boundTo (0x4000 / 0x1000)).map (fun c => (c.kind, c.base, c.size)) = some (.ram, 0x4000, 0x4000) ∧
      (mixedBus.boundTo (0x97FF / 0x1000)).map (fun c => (c.kind, c.base, c.size)) = some (.ram, 0x9000, 0x0800) ∧
      (mixedBus.boundTo (0x9800 / 0x1000)).map (fun c => (c.base, c.size)) = some (0x9000, 0x0800) := by decide

theorem witness_MemoryReadAfterWrite :
    Memory.wf [(0, 0x01#8), (0xFFFF, 0xFF#8)] = true ∧ Memory.wf [] = true := by decide

theorem witness_DaaGivesTheDecimalResult : 0 < 100 ∧ 99 < 100 := by decide

/-- Every access is possible in one RAM of 64 KB. -/
theorem accessible_fullRam (i : Instr) (s : State) (h : s.bus = AddressSpace.fullRam) : Accessible i s := by
  have hs (a : Word) : AddressSpace.fullRam.boundTo (slotOf a) =
      some { kind := .ram, base := 0, size := 0x10000, image := [] } := by
    simp [AddressSpace.fullRam, AddressSpace.boundTo, Component.bindsSlot, Component.firstSlot, Component.lastSlot, slotOf]
    omega
  refine accessible_of i _ ⟨fun a _ => ?_, fun a _ => ?_⟩
  · simp [State.peek, h, AddressSpace.read, hs, Component.read, Component.contains, a.isLt, Except.toOption]
  · simp [State.writable, h, AddressSpace.isRam, hs, Component.contains, a.isLt]

/-- Every instruction of the table has its witness in the state after reset. -/
theorem witness_EveryInstructionCompletes (i : Instr) : Accessible i State.reset := accessible_fullRam i _ rfl

theorem witness_FaultsComeFromAccesses :
    (Instr.pushIx).wf = true ∧ (Instr.pushIx).isPrefixRow = false ∧ (∃ e, exec .pushIx (pointing 0x4001#16) = .fault e) ∧
      ∃ e, exec .popIy (pointing 0x7FFF#16) = .fault e :=
  ⟨by decide, by decide, exists_fault _ _ (by decide), exists_fault _ _ (by decide)⟩

theorem witness_EveryStepReturnsCycles :
    (∃ t, step (codeOf 0x0000#16 (.setBAtIxd 7 0xFF#8)) = .next t) ∧ ∃ t, step State.reset = .next t :=
  ⟨exists_next _ (by decide), exists_next _ (by decide)⟩

theorem witness_Load8FromMemory :
    (let s := pointing 0x7FFF#16;
      Points s 0x7FFF#16 ∧ Reads s 0x7FFF#16 0x00#8 ∧ Reads s 0x4000#16 0x00#8 ∧ Reads s 0xFFFF#16 0x00#8) ∧
      let s := pointing 0x8000#16
      Points s 0x8000#16 ∧ s.peek 0x8000#16 = .error (hole 0x8000#16) := by decide

theorem witness_Store8ToMemory :
    (let s := pointing 0x7FFF#16;
      Points s 0x7FFF#16 ∧ s.writable 0x7FFF#16 = true ∧ s.writable 0x4000#16 = true) ∧
      let s := pointing 0x3FFF#16
      Points s 0x3FFF#16 ∧ WriteFails s 0x3FFF#16 (.readOnly 0x3FFF#16) := by
  exact ⟨by decide, by decide, writeFails_of _ _ _ (by decide)⟩

theorem witness_Load16FromMemory :
    let s := State.reset.place []
    let s : State := { s with bus := mixedBus }
    (Reads s 0x7FFE#16 0x00#8 ∧ Reads s (0x7FFE#16 + 1#16) 0x00#8) ∧ s.peek 0x8FFF#16 = .error (hole 0x8FFF#16) ∧
      (Reads s 0x7FFF#16 0x00#8 ∧ s.peek (0x7FFF#16 + 1#16) = .error (hole 0x8000#16)) ∧
      Reads s 0xFFFF#16 0x00#8 ∧ Reads s (0xFFFF#16 + 1#16) 0x11#8 := by decide

theorem witness_Store16ToMemory :
    let s := pointing 0x0000#16
    (s.writable 0x7FFE#16 = true ∧ s.writable (0x7FFE#16 + 1#16) = true) ∧ WriteFails s 0x3FFF#16 (.readOnly 0x3FFF#16) ∧
      (s.writable 0x7FFF#16 = true ∧ WriteFails s (0x7FFF#16 + 1#16) (hole 0x8000#16)) ∧
      s.writable 0xFFFF#16 = true ∧ WriteFails s (0xFFFF#16 + 1#16) (.readOnly 0x0000#16) :=
  ⟨by decide, writeFails_of _ _ _ (by decide), ⟨by decide, writeFails_of _ _ _ (by decide)⟩, by decide,
    writeFails_of _ _ _ (by decide)⟩

/-- The three clauses of a push, at the lower end of a RAM region. -/
theorem push_clauses :
    (let s := pointing 0x4002#16;
      s.writable (s.sp - 1#16) = true ∧ s.writable (s.sp - 2#16) = true) ∧
      (let s := pointing 0x4000#16;
        WriteFails s (s.sp - 1#16) (.readOnly 0x3FFF#16)) ∧
      let s := pointing 0x4001#16
      s.writable (s.sp - 1#16) = true ∧ WriteFails s (s.sp - 2#16) (.readOnly 0x3FFF#16) :=
  ⟨by decide, writeFails_of _ _ _ (by decide), by decide, writeFails_of _ _ _ (by decide)⟩

/-- The three clauses of a pop, at the upper end of a RAM region. -/
theorem pop_clauses :
    (let s := pointing 0x7FFE#16;
      Reads s s.sp 0x00#8 ∧ Reads s (s.sp + 1#16) 0x00#8) ∧
      (let s := pointing 0x8000#16;
        s.peek s.sp = .error (hole 0x8000#16)) ∧
      let s := pointing 0x7FFF#16
      Reads s s.sp 0x00#8 ∧ s.peek (s.sp + 1#16) = .error (hole 0x8000#16) := by decide

/-- The three clauses of a byte read and written back: through HL and both index registers. -/
theorem modify_clauses :
    (let s := pointing 0x7FFF#16;
      Points s 0x7FFF#16 ∧ Reads s 0x7FFF#16 0x00#8 ∧ s.writable 0x7FFF#16 = true) ∧
      (let s := pointing 0x8000#16;
        Points s 0x8000#16 ∧ s.peek 0x8000#16 = .error (hole 0x8000#16)) ∧
      let s := pointing 0x0001#16
      Points s 0x0001#16 ∧ Reads s 0x0001#16 0x22#8 ∧ WriteFails s 0x0001#16 (.readOnly 0x0001#16) := by
  exact ⟨by decide, by decide, by decide, by decide, writeFails_of _ _ _ (by decide)⟩

theorem witness_PushStoresAPair :
    (let s := pointing 0x4002#16;
      s.writable (s.sp - 1#16) = true ∧ s.writable (s.sp - 2#16) = true) ∧
      (let s := pointing 0x4000#16;
        WriteFails s (s.sp - 1#16) (.readOnly 0x3FFF#16)) ∧
      let s := pointing 0x4001#16
      s.writable (s.sp - 1#16) = true ∧ WriteFails s (s.sp - 2#16) (.readOnly 0x3FFF#16) := push_clauses

theorem witness_PopLoadsAPair :
    (let s := pointing 0x7FFE#16;
      Reads s s.sp 0x00#8 ∧ Reads s (s.sp + 1#16) 0x00#8) ∧
      (let s := pointing 0x8000#16;
        s.peek s.sp = .error (hole 0x8000#16)) ∧
      let s := pointing 0x7FFF#16
      Reads s s.sp 0x00#8 ∧ s.peek (s.sp + 1#16) = .error (hole 0x8000#16) := pop_clauses

theorem witness_ExchangeWithTopOfStack :
    (let s := pointing 0x7FFE#16;
      Reads s s.sp 0x00#8 ∧ Reads s (s.sp + 1#16) 0x00#8 ∧ s.writable s.sp = true ∧ s.writable (s.sp + 1#16) = true) ∧
      (let s := pointing 0x8000#16;
        s.peek s.sp = .error (hole 0x8000#16)) ∧
      (let s := pointing 0x7FFF#16;
        Reads s s.sp 0x00#8 ∧ s.peek (s.sp + 1#16) = .error (hole 0x8000#16)) ∧
      (let s := pointing 0x0000#16;
        Reads s s.sp 0x11#8 ∧ Reads s (s.sp + 1#16) 0x22#8 ∧ WriteFails s (s.sp + 1#16) (.readOnly 0x0001#16)) ∧
      let s := pointing 0x3FFF#16
      (∃ lo, Reads s s.sp lo) ∧ Reads s (s.sp + 1#16) 0x00#8 ∧ s.writable (s.sp + 1#16) = true ∧
        WriteFails s s.sp (.readOnly 0x3FFF#16) :=
  ⟨by decide, by decide, by decide, ⟨by decide, by decide, writeFails_of _ _ _ (by decide)⟩,
    ⟨_, rfl⟩, by decide, by decide, writeFails_of _ _ _ (by decide)⟩

theorem witness_BlockLoad :
    (∀ count ∈ [0x00#8, 0x01#8, 0x02#8],
      let s : State := { pointing 0x7FFF#16 with b := 0x00#8, c := count }
      Reads s s.hl 0x00#8 ∧ s.writable s.de = true) ∧
      (let s := pointing 0x8000#16;
        s.peek s.hl = .error (hole 0x8000#16)) ∧
      let s := pointing 0x0001#16
      Reads s s.hl 0x22#8 ∧ WriteFails s s.de (.readOnly 0x0001#16) :=
  ⟨by decide, by decide, by decide, writeFails_of _ _ _ (by decide)⟩

theorem witness_BlockCompare :
    (∀ count ∈ [0x00#8, 0x01#8, 0x02#8],
      let s : State := { pointing 0x7FFF#16 with b := 0x00#8, c := count }
      Reads s s.hl 0x00#8) ∧
      let s := pointing 0x8000#16
      s.peek s.hl = .error (hole 0x8000#16) := by decide

theorem witness_AccumulatorOperations :
    (let s := pointing 0x7FFF#16;
      Points s 0x7FFF#16 ∧ Reads s 0x7FFF#16 0x00#8) ∧
      let s := pointing 0x8000#16
      Points s 0x8000#16 ∧ s.peek 0x8000#16 = .error (hole 0x8000#16) := by decide

theorem witness_IncrementAndDecrement8 :
    (let s := pointing 0x7FFF#16;
      Points s 0x7FFF#16 ∧ Reads s 0x7FFF#16 0x00#8 ∧ s.writable 0x7FFF#16 = true) ∧
      (let s := pointing 0x8000#16;
        Points s 0x8000#16 ∧ s.peek 0x8000#16 = .error (hole 0x8000#16)) ∧
      let s := pointing 0x0001#16
      Points s 0x0001#16 ∧ Reads s 0x0001#16 0x22#8 ∧ WriteFails s 0x0001#16 (.readOnly 0x0001#16) :=
  modify_clauses

theorem witness_RotatesOfRegisters : rotARow .rlc = some .rlca ∧ rotARow .rr = some .rra := by decide

theorem witness_RotatesOfMemory :
    (let s := pointing 0x7FFF#16;
      Points s 0x7FFF#16 ∧ Reads s 0x7FFF#16 0x00#8 ∧ s.writable 0x7FFF#16 = true) ∧
      (let s := pointing 0x8000#16;
        Points s 0x8000#16 ∧ s.peek 0x8000#16 = .error (hole 0x8000#16)) ∧
      let s := pointing 0x0001#16
      Points s 0x0001#16 ∧ Reads s 0x0001#16 0x22#8 ∧ WriteFails s 0x0001#16 (.readOnly 0x0001#16) :=
  modify_clauses

theorem witness_BitTests :
    (let s := pointing 0x7FFF#16;
      Points s 0x7FFF#16 ∧ Reads s 0x7FFF#16 0x00#8) ∧
      let s := pointing 0x8000#16
      Points s 0x8000#16 ∧ s.peek 0x8000#16 = .error (hole 0x8000#16) := by decide

theorem witness_BitResetAndSet :
    (let s := pointing 0x7FFF#16;
      Points s 0x7FFF#16 ∧ Reads s 0x7FFF#16 0x00#8 ∧ s.writable 0x7FFF#16 = true) ∧
      (let s := pointing 0x8000#16;
        Points s 0x8000#16 ∧ s.peek 0x8000#16 = .error (hole 0x8000#16)) ∧
      let s := pointing 0x0001#16
      Points s 0x0001#16 ∧ Reads s 0x0001#16 0x22#8 ∧ WriteFails s 0x0001#16 (.readOnly 0x0001#16) :=
  modify_clauses

/-- With every flag clear the negative conditions hold, with every flag set the positive ones. -/
theorem condition_clauses :
    (∀ cc ∈ [Cond.nz, .nc, .po, .p], ConditionHolds cc ({ State.reset with f := 0x00#8 } : State).flags ∧
      ¬ConditionHolds cc ({ State.reset with f := 0xFF#8 } : State).flags) ∧
      ∀ cc ∈ [Cond.z, .c, .pe, .m], ConditionHolds cc ({ State.reset with f := 0xFF#8 } : State).flags ∧
        ¬ConditionHolds cc ({ State.reset with f := 0x00#8 } : State).flags := by
  simp [ConditionHolds, State.flags, Flags.ofByte]

theorem witness_Jumps :
    (∀ cc ∈ [Cond.nz, .nc, .po, .p], ConditionHolds cc ({ State.reset with f := 0x00#8 } : State).flags ∧
      ¬ConditionHolds cc ({ State.reset with f := 0xFF#8 } : State).flags) ∧
      (∀ cc ∈ [Cond.z, .c, .pe, .m], ConditionHolds cc ({ State.reset with f := 0xFF#8 } : State).flags ∧
        ¬ConditionHolds cc ({ State.reset with f := 0x00#8 } : State).flags) ∧
      State.reset.b ≠ 1#8 ∧ ({ State.reset with b := 1#8 } : State).b = 1#8 :=
  ⟨condition_clauses.1, condition_clauses.2, by decide, by decide⟩

theorem witness_CallsAndReturns :
    (let s := pointing 0x4002#16;
      ConditionHolds .nz s.flags ∧ ¬ConditionHolds .z s.flags ∧ s.writable (s.sp - 1#16) = true ∧ s.writable (s.sp - 2#16) = true) ∧
      (let s := pointing 0x4000#16;
        ConditionHolds .nz s.flags ∧ WriteFails s (s.sp - 1#16) (.readOnly 0x3FFF#16)) ∧
      (let s := pointing 0x4001#16;
        ConditionHolds .nz s.flags ∧ s.writable (s.sp - 1#16) = true ∧ WriteFails s (s.sp - 2#16) (.readOnly 0x3FFF#16)) ∧
      (let s := pointing 0x7FFE#16;
        ConditionHolds .nz s.flags ∧ Reads s s.sp 0x00#8 ∧ Reads s (s.sp + 1#16) 0x00#8) ∧
      (let s := pointing 0x8000#16;
        ConditionHolds .nz s.flags ∧ s.peek s.sp = .error (hole 0x8000#16)) ∧
      let s := pointing 0x7FFF#16
      ConditionHolds .nz s.flags ∧ Reads s s.sp 0x00#8 ∧ s.peek (s.sp + 1#16) = .error (hole 0x8000#16) :=
  ⟨⟨rfl, nofun, push_clauses.1⟩, ⟨rfl, push_clauses.2.1⟩, ⟨rfl, push_clauses.2.2⟩, ⟨rfl, pop_clauses.1⟩, ⟨rfl, pop_clauses.2.1⟩, rfl,
    pop_clauses.2.2⟩

theorem witness_InputAndOutput :
    ({ State.reset with ioAnswers := [0xBF#8] } : State).ioAnswers = 0xBF#8 :: [] ∧
      ({ Params.standard with outC0 := some 0x5A#8 } : Params).outC0 = some 0x5A#8 ∧
      (State.reset.params.outC0 = none ∧ State.reset.params.cpuVariant = .nmos) ∧
      ({ Params.standard with cpuVariant := .cmos } : Params).outC0 = none := by decide

theorem witness_BlockInputAndOutput :
    (∀ count ∈ [0x00#8, 0x01#8, 0x02#8],
      let s : State := { pointing 0x7FFF#16 with b := count }
      s.writable s.hl = true ∧ Reads s s.hl 0x00#8) ∧
      (let s := pointing 0x3FFF#16;
        WriteFails s s.hl (.readOnly 0x3FFF#16)) ∧
      let s := pointing 0x8000#16
      s.peek s.hl = .error (hole 0x8000#16) :=
  ⟨by decide, writeFails_of _ _ _ (by decide), by decide⟩

theorem witness_IndexPrefixesBeforeOtherOpcodes :
    ((Instr.rstP 7).unaffected = true ∧ (∃ t, exec (.rstP 7) State.reset = .next t) ∧ Accessible (.rstP 7) State.reset) ∧
      ∃ e, exec (.rstP 7) (pointing 0x4000#16) = .fault e :=
  ⟨⟨by decide, exists_exec _ _ (by decide), witness_EveryInstructionCompletes _⟩, exists_fault _ _ (by decide)⟩

/-- The hypotheses of the statement on a prefix row, at the top of memory, where the bytes wrap to address 0. -/
abbrev Continues (row i : Instr) (rest : List Byte) : Prop :=
  row.isPrefixRow = true ∧ i.wf = true ∧ i.isPrefixRow = false ∧ encode i = encode row ++ rest ∧
    (code 0xFFFF#16 rest).params.undocPolicy = .execute ∧ BytesAt (code 0xFFFF#16 rest) 0xFFFF#16 rest

/-- Each row that is a table of its own, with an instruction that begins with it. -/
theorem witness_PrefixRowsContinueTheFetch :
    Continues .prefixCb (.setBR 7 .a) [0xFF#8] ∧ Continues .prefixEd (.ldRpAtNn .sp 0xFFFF#16) [0x7B#8, 0xFF#8, 0xFF#8] ∧
      Continues .prefixDd (.ldAtIxdN 0x80#8 0x00#8) [0x36#8, 0x80#8, 0x00#8] ∧ Continues .prefixDd (.ignoredDd .ed) [0xED#8] ∧
      Continues .prefixFd (.fdUnprefixed .ei) [0xFB#8] ∧ Continues .prefixDdCb (.rlcAtIxd 0x7F#8) [0x7F#8, 0x06#8] ∧
      Continues .prefixFdCb (.bitBAtIyd 7 0xFF#8) [0xFF#8, 0x7E#8] ∧
      Accessible (.rlcAtIxd 0x7F#8) (fetchedAfter .prefixDdCb (.rlcAtIxd 0x7F#8) (code 0xFFFF#16 [0x7F#8, 0x06#8])) :=
  ⟨by decide, by decide, by decide, by decide, by decide, by decide, by decide, accessible_fullRam _ _ rfl⟩

/-- A step that faults, on an empty bus, and both ways to fail an attach. -/
theorem witness_FaultKindsHaveTheirCodes :
    faults { code 0x8000#16 [] with bus := AddressSpace.empty } 1 (fun _ => true) = true ∧
      (∃ e, mixedBus.attach { kind := .ram, base := 0x7000, size := 0x3000, image := [] } = .error e) ∧
      ∃ e, mixedBus.attach { kind := .ram, base := 0x8000, size := 0, image := [] } = .error e :=
  ⟨by decide, ⟨_, rfl⟩, _, rfl⟩

end Sys2Proof.Tests
end

section
/-! What a completing instruction, an interrupt acceptance and a step do to the part of the state that computation leaves alone: the
alternate registers, I, R, the interrupt state, the hidden bits and the host's inputs (10_state.md R103, R111 to R119). -/

namespace Sys2Proof.Machine

/-- The fields of State that only a few instructions write. -/
structure ControlPart where
  altA : Byte
  altF : Byte
  altB : Byte
  altC : Byte
  altD : Byte
  altE : Byte
  altH : Byte
  altL : Byte
  i : Byte
  r : Byte
  iff1 : Bool
  iff2 : Bool
  im : InterruptMode
  halted : Bool
  intBlock : IntBlock
  nmiPending : Bool
  ldAir : Bool
  inputs : List HostInput

/-- The control part of a state. -/
def State.control (s : State) : ControlPart where
  altA := s.altA
  altF := s.altF
  altB := s.altB
  altC := s.altC
  altD := s.altD
  altE := s.altE
  altH := s.altH
  altL := s.altL
  i := s.i
  r := s.r
  iff1 := s.iff1
  iff2 := s.iff2
  im := s.im
  halted := s.halted
  intBlock := s.intBlock
  nmiPending := s.nmiPending
  ldAir := s.ldAir
  inputs := s.inputs

/-! ## The updates of State leave the control part -/

@[simp] theorem control_tick (s : State) (n : Nat) : (s.tick n).control = s.control := rfl

@[simp] theorem control_setFlags (s : State) (fl : Flags) : (s.setFlags fl).control = s.control := rfl

@[simp] theorem control_put (s : State) (a : Word) (v : Byte) : (s.put a v).control = s.control := by
  simp only [State.control, State.put]

@[simp] theorem control_pushed (s : State) (v : Word) : (s.pushed v).control = s.control := by
  simp only [State.control, State.pushed]

@[simp] theorem control_setHl (s : State) (v : Word) : (s.setHl v).control = s.control := rfl

@[simp] theorem control_setDe (s : State) (v : Word) : (s.setDe v).control = s.control := rfl

@[simp] theorem control_setBc (s : State) (v : Word) : (s.setBc v).control = s.control := rfl

@[simp] theorem control_setReg (s : State) (r : Reg8) (v : Byte) : (s.setReg r v).control = s.control := by
  cases r <;> rfl

@[simp] theorem control_setPair (s : State) (rp : RegPair) (v : Word) : (s.setPair rp v).control = s.control := by
  cases rp <;> rfl

@[simp] theorem control_setStackPair (s : State) (rp : StackPair) (v : Word) :
    (s.setStackPair rp v).control = s.control := by
  cases rp <;> rfl

@[simp] theorem control_setXy (s : State) (x : XY) (v : Word) : (s.setXy x v).control = s.control := by cases x <;> rfl

@[simp] theorem control_setHalf (s : State) (x : XY) (hf : Half) (v : Byte) : (s.setHalf x hf v).control = s.control := by
  cases hf <;> exact control_setXy s x _

@[simp] theorem control_setRegX (s : State) (x : XY) (r : RegX) (v : Byte) : (s.setRegX x r v).control = s.control := by
  cases r with
  | xh => exact control_setHalf s x .high v
  | xl => exact control_setHalf s x .low v
  | b | c | d | e | a => rfl

@[simp] theorem control_repeatBlock (again : Bool) (s : State) : (repeatBlock again s).control = s.control := by
  cases again <;> rfl

@[simp] theorem control_repeatBlockIo (again : Bool) (s : State) : (repeatBlockIo again s).control = s.control := by
  cases again <;> rfl

@[simp] theorem control_drawAirPv (s : State) : (drawAirPv s).control = s.control := by
  cases h : s.ldAir with
  | false => rw [drawAirPv_of_clear s h]
  | true => rw [drawAirPv_of_set s h]; rfl

/-! ## Results: what holds of every next state -/

/-- If the result is a next state, that state has the property (a fault or a refusal has no next state). -/
def Ends (res : Result) (post : State → Prop) : Prop := ∀ t, res = .next t → post t

theorem ends_next {s : State} {post : State → Prop} (h : post s) : Ends (.next s) post := by
  rintro t ⟨⟩
  exact h

theorem ends_fault (e : Fault) (post : State → Prop) : Ends (.fault e) post := by
  intro t h
  cases h

theorem ends_refused (e : Refusal) (post : State → Prop) : Ends (.refused e) post := by
  intro t h
  cases h

theorem ends_ite {c : Prop} [Decidable c] {res res' : Result} {post : State → Prop} (h : Ends res post)
    (h' : Ends res' post) : Ends (if c then res else res') post := by
  split
  · exact h
  · exact h'

theorem ends_andThen {res : Result} {k : State → Result} {mid post : State → Prop} (h : Ends res mid)
    (hk : ∀ u, mid u → Ends (k u) post) : Ends (andThen res k) post := by
  intro t ht
  obtain ⟨u, hu, hkt⟩ := (andThen_next _ _ _).1 ht
  exact hk u (h u hu) t hkt

theorem ends_loadByte {s : State} {a : Word} {k : Byte → Result} {post : State → Prop} (hk : ∀ v, Ends (k v) post) :
    Ends (loadByte s a k) post := by
  intro t ht
  obtain ⟨v, _, hv⟩ := (loadByte_next _ _ _ _).1 ht
  exact hk v t hv

theorem ends_storeByte {s : State} {a : Word} {v : Byte} {k : State → Result} {post : State → Prop}
    (hk : Ends (k (s.put a v)) post) : Ends (storeByte s a v k) post := fun t ht =>
  hk t ((storeByte_next _ _ _ _ _).1 ht).2

theorem ends_loadWord {s : State} {a : Word} {k : Word → Result} {post : State → Prop} (hk : ∀ v, Ends (k v) post) :
    Ends (loadWord s a k) post :=
  ends_loadByte fun _ => ends_loadByte fun _ => hk _

theorem ends_storeWord {s : State} {a v : Word} {k : State → Result} {post : State → Prop}
    (hk : Ends (k ((s.put a (loByte v)).put (a + 1#16) (hiByte v))) post) : Ends (storeWord s a v k) post :=
  ends_storeByte (ends_storeByte hk)

theorem ends_push16 {s : State} {v : Word} {k : State → Result} {post : State → Prop} (hk : Ends (k (s.pushed v)) post) :
    Ends (push16 s v k) post := fun t ht =>
  hk t ((push16_next _ _ _ _).1 ht).2.2

theorem ends_pop16 {s : State} {k : Word → State → Result} {post : State → Prop}
    (hk : ∀ v, Ends (k v { s with sp := s.sp + 2#16 }) post) : Ends (pop16 s k) post := by
  intro t ht
  obtain ⟨_, _, _, _, hv⟩ := (pop16_next _ _ _).1 ht
  exact hk _ t hv

theorem ends_modifyByte {s : State} {a : Word} {f : Byte → Byte} {k : Byte → State → Result} {post : State → Prop}
    (hk : ∀ v, Ends (k (f v) (s.put a (f v))) post) : Ends (modifyByte s a f k) post :=
  ends_loadByte fun v => ends_storeByte (hk v)

theorem ends_modifyFlags {s : State} {a : Word} {f : Byte → Flags → Byte × Flags} {k : Byte → State → Result}
    {post : State → Prop}
    (hk : ∀ v, Ends (k (f v s.flags).1 ((s.put a (f v s.flags).1).setFlags (f v s.flags).2)) post) :
    Ends (modifyFlags s a f k) post :=
  ends_loadByte fun v => ends_storeByte (hk v)

/-! ## The shared operations leave the control part -/

/-- The state's control part is this one. -/
def HasControl (c : ControlPart) (t : State) : Prop := t.control = c

/-- Every next state of the result has the control part of `s`. -/
abbrev KeepsControl (s : State) (res : Result) : Prop := Ends res (HasControl s.control)

/-- The last update of an instruction, and its cycle count. -/
theorem keepsControl_tick {s u : State} (n : Nat) (h : u.control = s.control) : KeepsControl s (.next (u.tick n)) :=
  ends_next h

theorem keepsControl_accumulate (op : AluOp) (s : State) (v : Byte) (n : Nat) : KeepsControl s (accumulate op s v n) :=
  keepsControl_tick n rfl

theorem keepsControl_accumulateAt (op : AluOp) (s : State) (a : Word) (n : Nat) :
    KeepsControl s (accumulateAt op s a n) :=
  ends_loadByte fun v => keepsControl_accumulate op s v n

theorem keepsControl_countReg (count : Byte → Flags → Byte × Flags) (s : State) (r : Reg8) :
    KeepsControl s (countReg count s r) :=
  keepsControl_tick 4 (by simp)

theorem keepsControl_countHalf (count : Byte → Flags → Byte × Flags) (s : State) (x : XY) (half : Half) :
    KeepsControl s (countHalf count s x half) :=
  keepsControl_tick 8 (by simp)

/-- INC, DEC, the rotates and the shifts of a byte in memory. -/
theorem keepsControl_modifyFlags_tick (s : State) (a : Word) (f : Byte → Flags → Byte × Flags) (n : Nat) :
    KeepsControl s (modifyFlags s a f fun _ u => .next (u.tick n)) :=
  ends_modifyFlags fun _ => keepsControl_tick n (by simp)

theorem keepsControl_bitTestAt (s : State) (bit : Fin 8) (a : Word) : KeepsControl s (bitTestAt s bit a) :=
  ends_loadByte fun _ => keepsControl_tick 20 rfl

theorem keepsControl_changeBitAt (s : State) (a : Word) (change : Byte → Byte) (n : Nat) :
    KeepsControl s (changeBitAt s a change n) :=
  ends_modifyByte fun _ => keepsControl_tick n (by simp)

theorem keepsControl_changeBitCopy (s : State) (a : Word) (change : Byte → Byte) (r : Reg8) :
    KeepsControl s (changeBitCopy s a change r) :=
  ends_modifyByte fun _ => keepsControl_tick 23 (by simp)

theorem keepsControl_rotateA (op : RotOp) (s : State) : KeepsControl s (rotateA op s) := keepsControl_tick 4 rfl

theorem keepsControl_rotateReg (op : RotOp) (s : State) (r : Reg8) : KeepsControl s (rotateReg op s r) :=
  keepsControl_tick 8 (by simp)

theorem keepsControl_rotateAt (op : RotOp) (s : State) (a : Word) (n : Nat) : KeepsControl s (rotateAt op s a n) :=
  keepsControl_modifyFlags_tick s a (rot op) n

theorem keepsControl_rotateCopy (op : RotOp) (s : State) (a : Word) (r : Reg8) : KeepsControl s (rotateCopy op s a r) :=
  ends_modifyFlags fun _ => keepsControl_tick 23 (by simp)

theorem keepsControl_rotateDigit (s : State) (newByte lowDigit : Byte → Byte) :
    KeepsControl s (rotateDigit s newByte lowDigit) :=
  ends_loadByte fun v => ends_storeByte (keepsControl_tick 18 (control_put s s.hl (newByte v)))

theorem keepsControl_loadReg (s : State) (r : Reg8) (a : Word) (n : Nat) : KeepsControl s (loadReg s r a n) :=
  ends_loadByte fun _ => keepsControl_tick n (by simp)

theorem keepsControl_storeAt (s : State) (a : Word) (v : Byte) (n : Nat) : KeepsControl s (storeAt s a v n) :=
  ends_storeByte (keepsControl_tick n (by simp))

theorem keepsControl_loadWord_tick (s : State) (a : Word) (n : Nat) (keep : Word → State)
    (hkeep : ∀ v, (keep v).control = s.control) : KeepsControl s (loadWord s a fun v => .next ((keep v).tick n)) :=
  ends_loadWord fun v => keepsControl_tick n (hkeep v)

theorem keepsControl_storeWord_tick (s : State) (a v : Word) (n : Nat) :
    KeepsControl s (storeWord s a v fun u => .next (u.tick n)) :=
  ends_storeWord (keepsControl_tick n (by simp))

theorem keepsControl_push16_tick (s : State) (v : Word) (n : Nat) :
    KeepsControl s (push16 s v fun u => .next (u.tick n)) :=
  ends_push16 (keepsControl_tick n (by simp))

theorem keepsControl_pop16_tick (s : State) (n : Nat) (keep : Word → State → State)
    (hkeep : ∀ v u, (keep v u).control = u.control) :
    KeepsControl s (pop16 s fun v u => .next ((keep v u).tick n)) :=
  ends_pop16 fun _ => keepsControl_tick n (hkeep _ _)

theorem keepsControl_exchangeTop (s : State) (v : Word) (n : Nat) (keep : Word → State → State)
    (hkeep : ∀ w u, (keep w u).control = u.control) : KeepsControl s (exchangeTop s v n keep) :=
  ends_loadByte fun _ => ends_loadByte fun _ => ends_storeByte (ends_storeByte (keepsControl_tick n (by simp [hkeep])))

theorem keepsControl_jump (s : State) (v : Word) (n : Nat) : KeepsControl s (jump s v n) := keepsControl_tick n rfl

theorem keepsControl_call (s : State) (v : Word) (n : Nat) : KeepsControl s (call s v n) :=
  ends_push16 (keepsControl_tick n (control_pushed s s.pc))

theorem keepsControl_popPc (s : State) (n : Nat) : KeepsControl s (popPc s n) :=
  ends_pop16 fun _ => keepsControl_tick n rfl

/-- A block operation, then an update that leaves the control part: the cycle count, or the repeat (R505). -/
theorem keepsControl_blockLoad (dir : Dir) (s : State) (k : State → State)
    (hk : ∀ u, (k u).control = u.control) : KeepsControl s (blockLoad dir s fun u => .next (k u)) :=
  ends_loadByte fun _ => ends_storeByte (ends_next ((hk _).trans (by simp)))

theorem keepsControl_blockCompare (dir : Dir) (s : State) (k : State → State)
    (hk : ∀ u, (k u).control = u.control) : KeepsControl s (blockCompare dir s fun u => .next (k u)) :=
  ends_loadByte fun _ => ends_next ((hk _).trans (by simp))

theorem keepsControl_blockIn (dir : Dir) (s : State) (k : State → State)
    (hk : ∀ u, (k u).control = u.control) : KeepsControl s (blockIn dir s fun u => .next (k u)) :=
  by
  unfold blockIn
  exact ends_storeByte (ends_next ((hk _).trans (control_put (ioRead s s.bc).2 s.hl s.ioValue)))

theorem keepsControl_blockOut (dir : Dir) (s : State) (k : State → State)
    (hk : ∀ u, (k u).control = u.control) : KeepsControl s (blockOut dir s fun u => .next (k u)) :=
  ends_loadByte fun _ => ends_next ((hk _).trans rfl)

/-! ## The control part an instruction leaves -/

/-- The unprefixed instructions that write the control part: EX AF,AF', EXX, HALT, DI and EI (R500, R502, R611 to R613). -/
def baseControl (i : Instr) (s : State) : ControlPart :=
  match i with
  | .exAfAf => { s.control with altA := s.a, altF := s.f }
  | .exx => { s.control with altB := s.b, altC := s.c, altD := s.d, altE := s.e, altH := s.h, altL := s.l }
  | .halt => { s.control with halted := true }
  | .di => { s.control with iff1 := false, iff2 := false }
  | .ei => { s.control with iff1 := true, iff2 := true }
  | _ => s.control

/-- The instructions that write the control part: the IM rows, the returns from an interrupt, LD I,A and LD R,A, and the unprefixed
ones, also under a DD or FD (R614 to R617, R817, R818, R416, R417, R323). -/
def controlAfter (i : Instr) (s : State) : ControlPart :=
  match i with
  | .im0 | .im0Mirror => { s.control with im := .im0 }
  | .im1 | .im1Mirror => { s.control with im := .im1 }
  | .im2 | .im2Mirror => { s.control with im := .im2 }
  | .im01 _ => { s.control with im := if Config.draw1 s.draws then .im1 else .im0 }
  | .reti | .retn | .retnMirror _ => { s.control with iff1 := s.iff2 }
  | .ldIA => { s.control with i := s.a }
  | .ldRA => { s.control with r := s.a }
  | i => baseControl (unwrap i) s

theorem control_execUnprefixed (i : Instr) (s : State) : Ends (execUnprefixed i s) (HasControl (baseControl i s)) := by
  cases i with
  | exAfAf | exx | halt | di | ei | nop | ldSpHl | exDeHl | daa | cpl | scf | ccf | addHlRp | outAtNA | inAAtN =>
    exact ends_next rfl
  | addAS | addAN | adcAS | adcAN | subS | subN | sbcAS | sbcAN | andS | andN | xorS | xorN | orS | orN | cpS | cpN =>
    exact keepsControl_accumulate _ s _ _
  | addAAtHl | adcAAtHl | subAtHl | sbcAAtHl | andAtHl | xorAtHl | orAtHl | cpAtHl =>
    exact keepsControl_accumulateAt _ s _ _
  | incR | decR => exact keepsControl_countReg _ s _
  | incAtHl | decAtHl => exact keepsControl_modifyFlags_tick s _ _ _
  | rlca | rrca | rla | rra => exact keepsControl_rotateA _ s
  | ldRpNn | incRp | decRp => exact keepsControl_tick _ (control_setPair s _ _)
  | ldRN | ldRS => exact keepsControl_tick _ (control_setReg s _ _)
  | ldRAtHl | ldAAtBc | ldAAtDe | ldAAtNn => exact keepsControl_loadReg s _ _ _
  | ldAtBcA | ldAtDeA | ldAtNnA | ldAtHlN | ldAtHlS => exact keepsControl_storeAt s _ _ _
  | ldHlAtNn nn => exact keepsControl_loadWord_tick s nn 16 s.setHl (control_setHl s)
  | ldAtNnHl => exact keepsControl_storeWord_tick s _ _ _
  | pushRp2 => exact keepsControl_push16_tick s _ _
  | popRp2 rp => exact keepsControl_pop16_tick s 10 (fun v u => u.setStackPair rp v) fun v u => control_setStackPair u rp v
  | exAtSpHl => exact keepsControl_exchangeTop s _ _ (fun v u => u.setHl v) fun v u => control_setHl u v
  | jpNn | jpHl | jrE => exact keepsControl_jump s _ _
  | jpCcNn | jrCcE => exact ends_ite (keepsControl_jump s _ _) (keepsControl_tick _ rfl)
  | djnzE => exact ends_ite (keepsControl_jump { s with b := s.b - 1#8 } _ _) (keepsControl_tick _ rfl)
  | callNn | rstP => exact keepsControl_call s _ _
  | callCcNn => exact ends_ite (keepsControl_call s _ _) (keepsControl_tick _ rfl)
  | ret => exact keepsControl_popPc s _
  | retCc => exact ends_ite (keepsControl_popPc s _) (keepsControl_tick _ rfl)
  | _ => exact ends_fault _ _

theorem control_addPrefixCycles {res : Result} {c : ControlPart} (h : Ends res (HasControl c)) :
    Ends (addPrefixCycles res) (HasControl c) :=
  ends_andThen h fun _ hu => ends_next hu

theorem control_returnFromInterrupt (s : State) :
    Ends (returnFromInterrupt s) (HasControl { s.control with iff1 := s.iff2 }) :=
  ends_pop16 fun _ => ends_next rfl

/-- A row of the unprefixed table means by itself what it means behind a DD or FD. -/
theorem control_exec_of_unprefixed {i : Instr} {s : State} (hexec : exec i s = execUnprefixed i s)
    (hcontrol : controlAfter i s = baseControl i s) : Ends (exec i s) (HasControl (controlAfter i s)) := by
  rw [hexec, hcontrol]
  exact control_execUnprefixed i s

/-- What every instruction leaves in the control part. -/
theorem control_exec (i : Instr) (s : State) (hi : i.isPrefixRow = false) :
    Ends (exec i s) (HasControl (controlAfter i s)) := by
  cases i with
  | prefixCb | prefixEd | prefixDd | prefixFd | prefixDdCb | prefixFdCb => cases hi
  | ddUnprefixed inner | fdUnprefixed inner => exact control_addPrefixCycles (control_execUnprefixed inner s)
  | ignoredDd | ignoredFd | im0 | im0Mirror | im1 | im1Mirror | im2 | im2Mirror | im01 | nopEd7 | nopEd | ldIA | ldRA | ldAI
  | ldAR | neg | negMirror | inFAtC | outAtCR | outAtC0 | adcHlRp | sbcHlRp | addIxRp | addIyRp | incIx | incIy | decIx
  | decIy | ldIxNn | ldIyNn | ldSpIx | ldSpIy | bitBR =>
    exact ends_next rfl
  | reti | retn | retnMirror => exact control_returnFromInterrupt s
  | resBR | setBR => exact keepsControl_tick _ (control_setReg s _ _)
  | inRAtC r => exact keepsControl_tick _ (control_setReg (ioRead s s.bc).2 r _)
  | ldRSIxHalf | ldRSIyHalf => exact keepsControl_tick _ (control_setRegX s _ _ _)
  | ldIxHalfN | ldIyHalfN => exact keepsControl_tick _ (control_setHalf s _ _ _)
  | addAIxHalf | addAIyHalf | adcAIxHalf | adcAIyHalf | subIxHalf | subIyHalf | sbcAIxHalf | sbcAIyHalf | andIxHalf
  | andIyHalf | xorIxHalf | xorIyHalf | orIxHalf | orIyHalf | cpIxHalf | cpIyHalf => exact keepsControl_accumulate _ s _ _
  | addAAtIxd | addAAtIyd | adcAAtIxd | adcAAtIyd | subAtIxd | subAtIyd | sbcAAtIxd | sbcAAtIyd | andAtIxd | andAtIyd
  | xorAtIxd | xorAtIyd | orAtIxd | orAtIyd | cpAtIxd | cpAtIyd => exact keepsControl_accumulateAt _ s _ _
  | incIxHalf | incIyHalf | decIxHalf | decIyHalf => exact keepsControl_countHalf _ s _ _
  | incAtIxd | incAtIyd | decAtIxd | decAtIyd => exact keepsControl_modifyFlags_tick s _ _ _
  | rlcR | rrcR | rlR | rrR | slaR | sraR | sllR | srlR => exact keepsControl_rotateReg _ s _
  | rlcAtHl | rrcAtHl | rlAtHl | rrAtHl | slaAtHl | sraAtHl | sllAtHl | srlAtHl | rlcAtIxd | rlcAtIyd | rrcAtIxd | rrcAtIyd
  | rlAtIxd | rlAtIyd | rrAtIxd | rrAtIyd | slaAtIxd | slaAtIyd | sraAtIxd | sraAtIyd | sllAtIxd | sllAtIyd | srlAtIxd
  | srlAtIyd => exact keepsControl_rotateAt _ s _ _
  | ldRRlcAtIxd | ldRRlcAtIyd | ldRRrcAtIxd | ldRRrcAtIyd | ldRRlAtIxd | ldRRlAtIyd | ldRRrAtIxd | ldRRrAtIyd | ldRSlaAtIxd
  | ldRSlaAtIyd | ldRSraAtIxd | ldRSraAtIyd | ldRSllAtIxd | ldRSllAtIyd | ldRSrlAtIxd | ldRSrlAtIyd =>
    exact keepsControl_rotateCopy _ s _ _
  | rld | rrd => exact keepsControl_rotateDigit s _ _
  | bitBAtHl => exact ends_loadByte fun _ => ends_next rfl
  | bitBAtIxd | bitBAtIyd | bitBAtIxdMirror | bitBAtIydMirror => exact keepsControl_bitTestAt s _ _
  | resBAtHl | setBAtHl | resBAtIxd | resBAtIyd | setBAtIxd | setBAtIyd => exact keepsControl_changeBitAt s _ _ _
  | ldRResBAtIxd | ldRResBAtIyd | ldRSetBAtIxd | ldRSetBAtIyd => exact keepsControl_changeBitCopy s _ _ _
  | ldRAtIxd | ldRAtIyd => exact keepsControl_loadReg s _ _ _
  | ldAtIxdS | ldAtIydS | ldAtIxdN | ldAtIydN => exact keepsControl_storeAt s _ _ _
  | ldRpAtNn rp nn => exact keepsControl_loadWord_tick s nn 20 (s.setPair rp) (control_setPair s rp)
  | ldHlAtNnEd nn => exact keepsControl_loadWord_tick s nn 20 s.setHl (control_setHl s)
  | ldIxAtNn nn => exact keepsControl_loadWord_tick s nn 20 (s.setXy .ix) (control_setXy s .ix)
  | ldIyAtNn nn => exact keepsControl_loadWord_tick s nn 20 (s.setXy .iy) (control_setXy s .iy)
  | ldAtNnRp | ldAtNnHlEd | ldAtNnIx | ldAtNnIy => exact keepsControl_storeWord_tick s _ _ _
  | pushIx | pushIy => exact keepsControl_push16_tick s _ _
  | popIx => exact keepsControl_pop16_tick s 14 (fun v u => u.setXy .ix v) fun v u => control_setXy u .ix v
  | popIy => exact keepsControl_pop16_tick s 14 (fun v u => u.setXy .iy v) fun v u => control_setXy u .iy v
  | exAtSpIx => exact keepsControl_exchangeTop s _ _ (fun v u => u.setXy .ix v) fun v u => control_setXy u .ix v
  | exAtSpIy => exact keepsControl_exchangeTop s _ _ (fun v u => u.setXy .iy v) fun v u => control_setXy u .iy v
  | jpIx | jpIy => exact keepsControl_jump s _ _
  | ldi | ldd => exact keepsControl_blockLoad _ s (·.tick 16) fun u => control_tick u 16
  | ldir | lddr =>
    exact keepsControl_blockLoad _ s (fun u => repeatBlock (loadRepeats u) u) fun u => control_repeatBlock _ u
  | cpi | cpd => exact keepsControl_blockCompare _ s (·.tick 16) fun u => control_tick u 16
  | cpir | cpdr =>
    exact keepsControl_blockCompare _ s (fun u => repeatBlock (compareRepeats u) u) fun u => control_repeatBlock _ u
  | ini | ind => exact keepsControl_blockIn _ s (·.tick 16) fun u => control_tick u 16
  | inir | indr =>
    exact keepsControl_blockIn _ s (fun u => repeatBlockIo (ioRepeats u) u) fun u => control_repeatBlockIo _ u
  | outi | outd => exact keepsControl_blockOut _ s (·.tick 16) fun u => control_tick u 16
  | otir | otdr =>
    exact keepsControl_blockOut _ s (fun u => repeatBlockIo (ioRepeats u) u) fun u => control_repeatBlockIo _ u
  | _ => exact control_exec_of_unprefixed rfl rfl

/-! ## Interrupt acceptance -/

/-- Taking an interrupt writes the control part at its entry only: the push and the search for the handler's address leave it. -/
theorem control_takeInterrupt (s : State) (keep : Bool) (n : Nat) (target : State → (Word → Result) → Result)
    (htarget : ∀ u k post, (∀ v, Ends (k v) post) → Ends (target u k) post) :
    Ends (takeInterrupt s keep n target) (HasControl (s.enterInterrupt keep).control) :=
  ends_push16 (htarget _ _ _ fun _ => ends_next (control_pushed (s.enterInterrupt keep) s.pc))

theorem control_acceptNmi (s : State) :
    Ends (acceptNmi s) (HasControl { (s.enterInterrupt s.iff2).control with nmiPending := false }) :=
  control_takeInterrupt { s with nmiPending := false } s.iff2 11 _ fun _ _ _ hk => hk _

theorem control_enterInterrupt_drawAirPv (s : State) (keep : Bool) :
    ((drawAirPv s).enterInterrupt keep).control = (s.enterInterrupt keep).control := by
  have h := control_drawAirPv s
  simp only [State.control, State.enterInterrupt, ControlPart.mk.injEq] at h ⊢
  simp [h]

theorem control_acceptInt (busByte : Byte) (s : State) :
    Ends (acceptInt busByte s) (HasControl (s.enterInterrupt false).control) := by
  rw [← control_enterInterrupt_drawAirPv]
  unfold acceptInt
  split
  · split
    · exact control_takeInterrupt (drawAirPv s) false 13 _ fun _ _ _ hk => hk _
    · exact ends_refused _ _
  · exact control_takeInterrupt (drawAirPv s) false 13 _ fun _ _ _ hk => hk _
  · exact control_takeInterrupt (drawAirPv s) false 19 _ fun _ _ _ hk => ends_loadWord hk

end Sys2Proof.Machine
end

section
/-! What a fetched instruction is: a row of the opcode tables that is no prefix row, with as many opcode fetches as the step has
counted in R (10_state.md R112, 30_encoding.md R302 to R304, R312). -/

namespace Sys2Proof

/-! ## The rows each decode table gives -/

/-- Every row the decoder answers with has the property. -/
def Rows (d : Decoded) (P : Instr → Prop) : Prop := ∀ i len, d = .ok (i, len) → P i

theorem rows_plain {P : Instr → Prop} {i : Instr} (len : Nat) (h : P i) : Rows (plain len i) P := by
  rintro _ _ ⟨⟩
  exact h

theorem rows_withByte {P : Instr → Prop} {f : Byte → Instr} (len : Nat) (bs : List Byte) (h : ∀ n, P (f n)) :
    Rows (withByte len bs f) P := by
  intro i l hd
  unfold withByte at hd
  split at hd
  · cases hd
    exact h _
  · cases hd

theorem rows_withTwo {P : Instr → Prop} {f : Byte → Byte → Instr} (len : Nat) (bs : List Byte) (h : ∀ d n, P (f d n)) :
    Rows (withTwo len bs f) P := by
  intro i l hd
  unfold withTwo at hd
  split at hd
  · cases hd
    exact h _ _
  · cases hd

theorem rows_withWord {P : Instr → Prop} {f : Word → Instr} (len : Nat) (bs : List Byte) (h : ∀ nn, P (f nn)) :
    Rows (withWord len bs f) P :=
  rows_withTwo len bs fun lo hi => h (hi ++ lo)

/-- An instruction, not a prefix alone, with this many opcode fetches. -/
def Fetches (n : Nat) (i : Instr) : Prop := i.isPrefixRow = false ∧ i.m1Cycles = n

/-- A row of the unprefixed table that is an instruction. -/
def IsBaseRow (i : Instr) : Prop := Fetches 1 i ∧ encodeBase i ≠ []

theorem fetches_ddUnprefixed {i : Instr} (h : encodeBase i ≠ []) : Fetches 2 (.ddUnprefixed i) := by
  obtain ⟨b, rest, hb⟩ := List.exists_cons_of_ne_nil h
  have hbytes : encode (.ddUnprefixed i) = 0xDD#8 :: b :: rest := congrArg (0xDD#8 :: ·) hb
  exact ⟨rfl, by simp [Instr.m1Cycles, hbytes]⟩

theorem fetches_fdUnprefixed {i : Instr} (h : encodeBase i ≠ []) : Fetches 2 (.fdUnprefixed i) := by
  obtain ⟨b, rest, hb⟩ := List.exists_cons_of_ne_nil h
  have hbytes : encode (.fdUnprefixed i) = 0xFD#8 :: b :: rest := congrArg (0xFD#8 :: ·) hb
  exact ⟨rfl, by simp [Instr.m1Cycles, hbytes]⟩

theorem fetches_decodeCb (op : Byte) : Fetches 2 (decodeCb op) := by
  unfold decodeCb
  split
  · unfold decodeRot
    split <;> split <;> exact ⟨rfl, rfl⟩
  all_goals split <;> exact ⟨rfl, rfl⟩

theorem rows_decodeEd1 (y z : Nat) (bs : List Byte) : Rows (decodeEd1 y z bs) (Fetches 2) := by
  unfold decodeEd1
  split
  · split <;> exact rows_plain _ ⟨rfl, rfl⟩
  · split <;> exact rows_plain _ ⟨rfl, rfl⟩
  · split <;> exact rows_plain _ ⟨rfl, rfl⟩
  · split
    · exact rows_withWord _ _ fun _ => ⟨rfl, rfl⟩
    · exact rows_withWord _ _ fun _ => ⟨rfl, rfl⟩
    · split <;> exact rows_withWord _ _ fun _ => ⟨rfl, rfl⟩
  all_goals split <;> exact rows_plain _ ⟨rfl, rfl⟩

theorem fetches_decodeBlock (y z : Nat) (op : Byte) : Fetches 2 ((decodeBlock y z).getD (.nopEd op)) := by
  unfold decodeBlock
  split <;> exact ⟨rfl, rfl⟩

theorem rows_decodeEd (op : Byte) (bs : List Byte) : Rows (decodeEd op bs) (Fetches 2) := by
  unfold decodeEd
  split
  · exact rows_decodeEd1 _ _ _
  · exact rows_plain _ (fetches_decodeBlock _ _ _)
  · exact rows_plain _ ⟨rfl, rfl⟩

theorem fetches_decodeXyCb (x : XY) (d op : Byte) : Fetches 2 (decodeXyCb x d op) := by
  unfold decodeXyCb
  split
  · unfold decodeRotIndexed
    cases x <;> split <;> split <;> exact ⟨rfl, rfl⟩
  all_goals cases x <;> split <;> exact ⟨rfl, rfl⟩

/-! ## The unprefixed table -/

theorem isBaseRow_aluImmediate (y : Nat) (n : Byte) : IsBaseRow (aluImmediate y n) := by
  unfold aluImmediate
  split <;> exact ⟨⟨rfl, rfl⟩, nofun⟩

theorem isBaseRow_decodeAlu (y : Nat) (r : Option Reg8) : IsBaseRow (decodeAlu y r) := by
  unfold decodeAlu
  split <;> split <;> exact ⟨⟨rfl, rfl⟩, nofun⟩

theorem isBaseRow_decodeBase1 (y z : Nat) : IsBaseRow (decodeBase1 y z) := by
  unfold decodeBase1
  split <;> exact ⟨⟨rfl, rfl⟩, nofun⟩

theorem isBaseRow_ldRpNn (rp : RegPair) (nn : Word) : IsBaseRow (.ldRpNn rp nn) := by
  cases rp <;> exact ⟨⟨rfl, rfl⟩, nofun⟩

theorem isBaseRow_jrCcE (cc : RelCond) (d : Byte) : IsBaseRow (.jrCcE cc d) := by
  cases cc <;> exact ⟨⟨rfl, rfl⟩, nofun⟩

theorem isBaseRow_ldRN (r : Reg8) (n : Byte) : IsBaseRow (.ldRN r n) := by
  cases r <;> exact ⟨⟨rfl, rfl⟩, nofun⟩

theorem isBaseRow_jpCcNn (cc : Cond) (nn : Word) : IsBaseRow (.jpCcNn cc nn) := by
  cases cc <;> exact ⟨⟨rfl, rfl⟩, nofun⟩

theorem isBaseRow_callCcNn (cc : Cond) (nn : Word) : IsBaseRow (.callCcNn cc nn) := by
  cases cc <;> exact ⟨⟨rfl, rfl⟩, nofun⟩

theorem rows_decodeBase0 (y z : Nat) (bs : List Byte) : Rows (decodeBase0 y z bs) IsBaseRow := by
  unfold decodeBase0
  split
  · split
    · exact rows_plain _ ⟨⟨rfl, rfl⟩, nofun⟩
    · exact rows_plain _ ⟨⟨rfl, rfl⟩, nofun⟩
    · exact rows_withByte _ _ fun _ => ⟨⟨rfl, rfl⟩, nofun⟩
    · exact rows_withByte _ _ fun _ => ⟨⟨rfl, rfl⟩, nofun⟩
    · exact rows_withByte _ _ (isBaseRow_jrCcE _)
  · split
    · exact rows_withWord _ _ (isBaseRow_ldRpNn _)
    · exact rows_plain _ ⟨⟨rfl, rfl⟩, nofun⟩
  · split
    iterate 4 exact rows_plain _ ⟨⟨rfl, rfl⟩, nofun⟩
    iterate 4 exact rows_withWord _ _ fun _ => ⟨⟨rfl, rfl⟩, nofun⟩
  · split <;> exact rows_plain _ ⟨⟨rfl, rfl⟩, nofun⟩
  · split <;> exact rows_plain _ ⟨⟨rfl, rfl⟩, nofun⟩
  · split <;> exact rows_plain _ ⟨⟨rfl, rfl⟩, nofun⟩
  · split
    · exact rows_withByte _ _ (isBaseRow_ldRN _)
    · exact rows_withByte _ _ fun _ => ⟨⟨rfl, rfl⟩, nofun⟩
  · split <;> exact rows_plain _ ⟨⟨rfl, rfl⟩, nofun⟩

/-- The four cells of the prefix bytes apart. -/
theorem rows_decodeBase3 (y z : Nat) (bs : List Byte)
    (hne : (z, y) ∉ [(3, 1), (5, 3), (5, 5), (5, 7)]) : Rows (decodeBase3 y z bs) IsBaseRow := by
  unfold decodeBase3
  split
  · exact rows_plain _ ⟨⟨rfl, rfl⟩, nofun⟩
  · split <;> exact rows_plain _ ⟨⟨rfl, rfl⟩, nofun⟩
  · exact rows_withWord _ _ (isBaseRow_jpCcNn _)
  · split
    · exact rows_withWord _ _ fun _ => ⟨⟨rfl, rfl⟩, nofun⟩
    · exact absurd hne (by decide)
    · exact rows_withByte _ _ fun _ => ⟨⟨rfl, rfl⟩, nofun⟩
    · exact rows_withByte _ _ fun _ => ⟨⟨rfl, rfl⟩, nofun⟩
    all_goals exact rows_plain _ ⟨⟨rfl, rfl⟩, nofun⟩
  · exact rows_withWord _ _ (isBaseRow_callCcNn _)
  · split
    · exact rows_withWord _ _ fun _ => ⟨⟨rfl, rfl⟩, nofun⟩
    · exact absurd hne (by decide)
    · exact absurd hne (by decide)
    · exact absurd hne (by decide)
    · exact rows_plain _ ⟨⟨rfl, rfl⟩, nofun⟩
  · exact rows_withByte _ _ (isBaseRow_aluImmediate _)
  · exact rows_plain _ ⟨⟨rfl, rfl⟩, nofun⟩

/-- A byte that is none of the four prefixes. -/
def IsPlainByte (op : Byte) : Prop := op ≠ 0xCB#8 ∧ op ≠ 0xED#8 ∧ op ≠ 0xDD#8 ∧ op ≠ 0xFD#8

theorem rows_decodeBase (op : Byte) (bs : List Byte) (hop : IsPlainByte op) : Rows (decodeBase op bs) IsBaseRow := by
  unfold decodeBase
  split
  · exact rows_decodeBase0 _ _ _
  · exact rows_plain _ (isBaseRow_decodeBase1 _ _)
  · exact rows_plain _ (isBaseRow_decodeAlu _ _)
  · rename_i h0 h1 h2
    refine rows_decodeBase3 _ _ _ ?_
    obtain ⟨hcb, hed, hdd, hfd⟩ := hop
    simp only [opX, opY, opZ, imp_false, ne_eq, ← BitVec.toNat_inj, BitVec.toNat_ofNat, Nat.reducePow, Nat.reduceMod,
      List.mem_cons, List.not_mem_nil, Prod.mk.injEq, or_false] at *
    omega

/-! ## The DD and FD tables -/

theorem fetches_decodeAluHalf (x : XY) (y : Nat) (half : Half) : Fetches 2 (decodeAluHalf x y half) := by
  unfold decodeAluHalf
  cases x <;> split <;> cases half <;> exact ⟨rfl, rfl⟩

theorem fetches_aluIndexed (x : XY) (y : Nat) (d : Byte) : Fetches 2 (aluIndexed x y d) := by
  unfold aluIndexed
  cases x <;> split <;> exact ⟨rfl, rfl⟩

theorem rows_decodeXy0 (x : XY) (y z : Nat) (bs : List Byte) {d : Decoded} (hd : decodeXy0 x y z bs = some d) :
    Rows d (Fetches 2) := by
  unfold decodeXy0 at hd
  split at hd
  · split at hd
    · cases hd
      cases x <;> exact rows_plain _ ⟨rfl, rfl⟩
    · split at hd <;> cases hd
      cases x <;> exact rows_withWord _ _ fun _ => ⟨rfl, rfl⟩
  · split at hd <;> cases hd <;> cases x <;> exact rows_withWord _ _ fun _ => ⟨rfl, rfl⟩
  · split at hd <;> cases hd <;> cases x <;> exact rows_plain _ ⟨rfl, rfl⟩
  iterate 2
    · split at hd <;> cases hd <;> cases x
      iterate 4 exact rows_plain _ ⟨rfl, rfl⟩
      iterate 2 exact rows_withByte _ _ fun _ => ⟨rfl, rfl⟩
  · split at hd <;> cases hd <;> cases x
    iterate 4 exact rows_withByte _ _ fun _ => ⟨rfl, rfl⟩
    iterate 2 exact rows_withTwo _ _ fun _ _ => ⟨rfl, rfl⟩
  · cases hd

theorem rows_decodeXy1 (x : XY) (y z : Nat) (bs : List Byte) {d : Decoded} (hd : decodeXy1 x y z bs = some d) :
    Rows d (Fetches 2) := by
  unfold decodeXy1 at hd
  split at hd
  · cases hd
  · cases hd
    cases x <;> exact rows_withByte _ _ fun _ => ⟨rfl, rfl⟩
  · cases hd
    cases x <;> exact rows_withByte _ _ fun _ => ⟨rfl, rfl⟩
  · split at hd
    · split at hd
      · cases hd
        cases x <;> exact rows_plain _ ⟨rfl, rfl⟩
      · cases hd
    · cases hd

theorem rows_decodeXy2 (x : XY) (y z : Nat) (bs : List Byte) {d : Decoded} (hd : decodeXy2 x y z bs = some d) :
    Rows d (Fetches 2) := by
  unfold decodeXy2 at hd
  split at hd <;> cases hd
  · exact rows_plain _ (fetches_decodeAluHalf x y .high)
  · exact rows_plain _ (fetches_decodeAluHalf x y .low)
  · exact rows_withByte _ _ (fetches_aluIndexed x y)

theorem rows_decodeXy3 (x : XY) (y z : Nat) {d : Decoded} (hd : decodeXy3 x y z = some d) : Rows d (Fetches 2) := by
  unfold decodeXy3 at hd
  split at hd <;> cases hd <;> cases x <;> exact rows_plain _ ⟨rfl, rfl⟩

theorem rows_decodeAffected (x : XY) (op : Byte) (bs : List Byte) {d : Decoded} (hd : decodeAffected x op bs = some d) :
    Rows d (Fetches 2) := by
  unfold decodeAffected at hd
  split at hd
  · exact rows_decodeXy0 _ _ _ _ hd
  · exact rows_decodeXy1 _ _ _ _ hd
  · exact rows_decodeXy2 _ _ _ _ hd
  · exact rows_decodeXy3 _ _ _ hd

theorem rows_prefixed (x : XY) {d : Decoded} (hd : Rows d IsBaseRow) : Rows (prefixed x d) (Fetches 2) := by
  intro i len h
  unfold prefixed at h
  split at h
  · obtain ⟨_, hbytes⟩ := hd _ _ rfl
    cases h
    cases x
    · exact fetches_ddUnprefixed hbytes
    · exact fetches_fdUnprefixed hbytes
  · cases h

/-- A byte that is no chain byte and not CB is no prefix. -/
theorem isPlainByte_of_not_chain {b : Byte} (hchain : ChainByte.ofByte b = none) (hcb : b ≠ 0xCB#8) : IsPlainByte b := by
  refine ⟨hcb, ?_, ?_, ?_⟩ <;> rintro rfl <;> exact absurd hchain (by decide)

theorem rows_decodeXy (x : XY) (b1 : Byte) (rest : List Byte) (hchain : ChainByte.ofByte b1 = none)
    (hcb : b1 ≠ 0xCB#8) : Rows (decodeXy x (b1 :: rest)) (Fetches 2) := by
  simp only [decodeXy, hchain, if_neg hcb]
  split
  · exact rows_decodeAffected x b1 rest ‹_›
  · exact rows_prefixed x (rows_decodeBase b1 rest (isPlainByte_of_not_chain hchain hcb))

theorem rows_decodeXy_chain (x : XY) (b1 : Byte) (rest : List Byte) (hchain : (ChainByte.ofByte b1).isSome = true) :
    Rows (decodeXy x (b1 :: rest)) (Fetches 1) := by
  obtain ⟨next, hnext⟩ := Option.isSome_iff_exists.1 hchain
  simp only [decodeXy, hnext]
  cases x <;> exact rows_plain _ ⟨rfl, rfl⟩

/-! ## Whole sequences -/

theorem rows_decode_cb (op : Byte) (bs : List Byte) : Rows (decode (0xCB#8 :: op :: bs)) (Fetches 2) :=
  rows_plain 2 (fetches_decodeCb op)

theorem rows_decode_ed (op : Byte) (bs : List Byte) : Rows (decode (0xED#8 :: op :: bs)) (Fetches 2) :=
  rows_decodeEd op bs

theorem decode_xyByte (x : XY) (bs : List Byte) : decode (Machine.xyByte x :: bs) = decodeXy x bs := by cases x <;> rfl

theorem rows_decode_xyCb (x : XY) (d op : Byte) (bs : List Byte) :
    Rows (decode (Machine.xyByte x :: 0xCB#8 :: d :: op :: bs)) (Fetches 2) := by
  rw [decode_xyByte]
  exact rows_plain 4 (fetches_decodeXyCb x d op)

theorem rows_decode_base (op : Byte) (bs : List Byte) (hop : IsPlainByte op) : Rows (decode (op :: bs)) (Fetches 1) := by
  obtain ⟨hcb, hed, hdd, hfd⟩ := id hop
  simp only [decode, if_neg hcb, if_neg hed, if_neg hdd, if_neg hfd]
  exact fun i len h => (rows_decodeBase op bs hop i len h).1

end Sys2Proof

namespace Sys2Proof.Machine

/-! ## What a fetch changes -/

/-- `u` is `s` after a fetch with `n` opcode fetches: PC and the latch moved on, R counted `n` times. -/
def FetchedAs (n : Nat) (s u : State) : Prop := u = { s with pc := u.pc, r := refresh^[n] s.r, latch := u.latch }

theorem FetchedAs.trans {m n : Nat} {s u v : State} (h : FetchedAs m s u) (h' : FetchedAs n u v) :
    FetchedAs (n + m) s v := by
  unfold FetchedAs at *
  rw [h', h, Function.iterate_add_apply]

theorem FetchedAs.control {n : Nat} {s u : State} (h : FetchedAs n s u) :
    u.control = { s.control with r := refresh^[n] s.r } :=
  congrArg State.control h

/-- A fetch step that goes on: what came before it and what follows. -/
theorem bind_eq_ok {ε α β : Type} (x : Except ε α) (f : α → Except ε β) (b : β) :
    (x >>= f) = .ok b ↔ ∃ a, x = .ok a ∧ f a = .ok b := by
  cases x <;> simp [bind, Except.bind]

theorem fetchOpcode_eq_ok {s u : State} {b : Byte} (h : fetchOpcode s = .ok (b, u)) :
    s.peek s.pc = .ok b ∧ FetchedAs 1 s u := by
  unfold fetchOpcode at h
  split at h
  · rename_i hb
    cases h
    exact ⟨hb, rfl⟩
  · cases h

theorem fetchByte_eq_ok {s u : State} {b : Byte} (h : fetchByte s = .ok (b, u)) : FetchedAs 0 s u := by
  unfold fetchByte at h
  split at h
  · cases h
    rfl
  · cases h

theorem fetchBytes_eq_ok {n : Nat} {s u : State} {bs : List Byte} (h : fetchBytes n s = .ok (bs, u)) : FetchedAs 0 s u := by
  induction n generalizing s bs with
  | zero =>
    cases h
    rfl
  | succ n ih =>
    obtain ⟨⟨b, v⟩, hb, hrest⟩ := (bind_eq_ok _ _ _).1 h
    obtain ⟨⟨rest, w⟩, hw, hu⟩ := (bind_eq_ok _ _ _).1 hrest
    cases hu
    exact (fetchByte_eq_ok hb).trans (ih hw)

/-- The end of a fetch gives a row of the decoder's answer to the bytes so far and some operand bytes. -/
theorem fetchOperands_eq_ok {bytes : List Byte} {n k : Nat} {s u : State} {i : Instr}
    (h : fetchOperands bytes n s = .ok (i, u)) (hrows : ∀ rest, Rows (decode (bytes ++ rest)) (Fetches k)) :
    Fetches k i ∧ FetchedAs 0 s u := by
  obtain ⟨_, _, h⟩ := (bind_eq_ok _ _ _).1 h
  obtain ⟨⟨rest, v⟩, hv, h⟩ := (bind_eq_ok _ _ _).1 h
  dsimp only at h
  split at h
  · rename_i hdecode
    cases h
    exact ⟨hrows rest _ _ hdecode, fetchBytes_eq_ok hv⟩
  · cases h

/-- A fetch that ends in an instruction, and has counted each of its opcode fetches but the `m` before it. -/
def Completes (m : Nat) (s : State) (res : Except Fault (Instr × State)) : Prop :=
  ∀ i u, res = .ok (i, u) → ∃ n, Fetches (n + m) i ∧ FetchedAs n s u

theorem completes_fetchOperands {m : Nat} {bytes : List Byte} (n : Nat) (s : State)
    (hrows : ∀ rest, Rows (decode (bytes ++ rest)) (Fetches m)) : Completes m s (fetchOperands bytes n s) := by
  intro i u h
  obtain ⟨hi, hu⟩ := fetchOperands_eq_ok h hrows
  exact ⟨0, by rwa [Nat.zero_add], hu⟩

theorem completes_after_opcode {m : Nat} {s : State} {f : Byte × State → Except Fault (Instr × State)}
    (hf : ∀ b u, s.peek s.pc = .ok b → Completes (m + 1) u (f (b, u))) : Completes m s (fetchOpcode s >>= f) := by
  intro i u h
  obtain ⟨⟨b, v⟩, hv, h⟩ := (bind_eq_ok _ _ _).1 h
  obtain ⟨hb, hfetch⟩ := fetchOpcode_eq_ok hv
  obtain ⟨n, hi, hu⟩ := hf b v hb i u h
  exact ⟨n + 1, by rwa [Nat.add_right_comm n 1 m], hfetch.trans hu⟩

theorem completes_after_byte {m : Nat} {s : State} {f : Byte × State → Except Fault (Instr × State)}
    (hf : ∀ b u, Completes m u (f (b, u))) : Completes m s (fetchByte s >>= f) := by
  intro i u h
  obtain ⟨⟨b, v⟩, hv, h⟩ := (bind_eq_ok _ _ _).1 h
  obtain ⟨n, hi, hu⟩ := hf b v i u h
  exact ⟨n, hi, (fetchByte_eq_ok hv).trans hu⟩

theorem completes_fetchCb (s : State) : Completes 1 s (fetchCb s) :=
  completes_after_opcode fun op u _ => completes_fetchOperands 0 u (rows_decode_cb op)

theorem completes_fetchEd (s : State) : Completes 1 s (fetchEd s) :=
  completes_after_opcode fun op u _ => completes_fetchOperands _ u (rows_decode_ed op)

theorem completes_fetchXyCb (x : XY) (s : State) : Completes 2 s (fetchXyCb x s) :=
  completes_after_byte fun d _ => completes_after_byte fun op u => completes_fetchOperands 0 u (rows_decode_xyCb x d op)

theorem completes_fetchXy (x : XY) (s : State) : Completes 1 s (fetchXy x s) := by
  unfold fetchXy
  split
  · intro i u h
    cases h
  · rename_i b1 hb1
    split
    · refine completes_fetchOperands 0 s fun rest => ?_
      rw [List.cons_append, decode_xyByte]
      exact rows_decodeXy_chain x b1 rest ‹_›
    · rename_i hchain
      refine completes_after_opcode fun b u hb => ?_
      obtain rfl : b1 = b := Except.ok.inj (hb1.symm.trans hb)
      dsimp only
      split
      · exact completes_fetchXyCb x u
      · rename_i hcb
        refine completes_fetchOperands _ u fun rest => ?_
        rw [List.cons_append, decode_xyByte]
        exact rows_decodeXy x b1 rest (by simpa using hchain) hcb

theorem completes_fetchInstr (s : State) : Completes 0 s (fetchInstr s) := by
  refine completes_after_opcode fun b u _ => ?_
  dsimp only
  split
  · exact completes_fetchCb u
  split
  · exact completes_fetchEd u
  split
  · exact completes_fetchXy .ix u
  split
  · exact completes_fetchXy .iy u
  · exact completes_fetchOperands _ u fun rest => rows_decode_base b rest ⟨‹_›, ‹_›, ‹_›, ‹_›⟩

/-- A fetched instruction is no prefix row, and its fetch counted each of its opcode fetches in R (R112). -/
theorem fetchInstr_eq_ok {s u : State} {i : Instr} (h : fetchInstr s = .ok (i, u)) :
    i.isPrefixRow = false ∧ FetchedAs i.m1Cycles s u := by
  obtain ⟨n, ⟨hrow, hcount⟩, hu⟩ := completes_fetchInstr s i u h
  rw [hcount]
  exact ⟨hrow, hu⟩

end Sys2Proof.Machine
end

section
/-! The control part a step leaves, and the statements of 10_state.md about it. -/

namespace Sys2Proof.Machine

/-! ## Which instructions write which field of the control part -/

theorem baseControl_alternates {i : Instr} (s : State) (hex : i ≠ .exAfAf) (hexx : i ≠ .exx) :
    baseControl i s = { baseControl i s with
      altA := s.altA, altF := s.altF, altB := s.altB, altC := s.altC
      altD := s.altD, altE := s.altE, altH := s.altH, altL := s.altL } := by
  unfold baseControl
  split
  · exact absurd rfl hex
  · exact absurd rfl hexx
  all_goals rfl

theorem controlAfter_alternates {i : Instr} (s : State) (hex : unwrap i ≠ .exAfAf) (hexx : unwrap i ≠ .exx) :
    controlAfter i s = { controlAfter i s with
      altA := s.altA, altF := s.altF, altB := s.altB, altC := s.altC
      altD := s.altD, altE := s.altE, altH := s.altH, altL := s.altL } := by
  unfold controlAfter
  split
  iterate 12 rfl
  exact baseControl_alternates s hex hexx

theorem baseControl_iffs {i : Instr} (s : State) (hei : i ≠ .ei) (hdi : i ≠ .di) :
    (baseControl i s).iff1 = s.iff1 ∧ (baseControl i s).iff2 = s.iff2 := by
  unfold baseControl
  split
  case h_4 => exact absurd rfl hdi
  case h_5 => exact absurd rfl hei
  all_goals exact ⟨rfl, rfl⟩

theorem controlAfter_iff2 {i : Instr} (s : State) (hei : unwrap i ≠ .ei) (hdi : unwrap i ≠ .di) :
    (controlAfter i s).iff2 = s.iff2 := by
  unfold controlAfter
  split
  iterate 12 rfl
  exact (baseControl_iffs s hei hdi).2

theorem controlAfter_iff1 {i : Instr} (s : State) (hei : unwrap i ≠ .ei) (hdi : unwrap i ≠ .di) (hreti : i ≠ .reti)
    (hretn : i ≠ .retn) (hmirror : ∀ y, i ≠ .retnMirror y) : (controlAfter i s).iff1 = s.iff1 := by
  unfold controlAfter
  split
  case h_8 => exact absurd rfl hreti
  case h_9 => exact absurd rfl hretn
  case h_10 y => exact absurd rfl (hmirror y)
  case h_13 => exact (baseControl_iffs s hei hdi).1
  all_goals rfl

theorem controlAfter_of_ei {i : Instr} (s : State) (h : unwrap i = .ei) :
    controlAfter i s = { s.control with iff1 := true, iff2 := true } := by
  unfold controlAfter
  split
  case h_13 => rw [h, baseControl]
  all_goals cases h

theorem controlAfter_of_di {i : Instr} (s : State) (h : unwrap i = .di) :
    controlAfter i s = { s.control with iff1 := false, iff2 := false } := by
  unfold controlAfter
  split
  case h_13 => rw [h, baseControl]
  all_goals cases h

theorem baseControl_halted {i : Instr} (s : State) (h : i ≠ .halt) : (baseControl i s).halted = s.halted := by
  unfold baseControl
  split
  case h_3 => exact absurd rfl h
  all_goals rfl

theorem controlAfter_halted {i : Instr} (s : State) (h : unwrap i ≠ .halt) : (controlAfter i s).halted = s.halted := by
  unfold controlAfter
  split
  iterate 12 rfl
  exact baseControl_halted s h

/-- The other fields of the control part are the unprefixed instructions' to leave alone. -/
theorem baseControl_rest (i : Instr) (s : State) :
    baseControl i s = { baseControl i s with
      im := s.im, i := s.i, r := s.r, nmiPending := s.nmiPending, inputs := s.inputs } := by
  unfold baseControl
  split <;> rfl

theorem controlAfter_im {i : Instr} (s : State)
    (h : i ∉ [.im0, .im0Mirror, .im1, .im1Mirror, .im2, .im2Mirror, .im01 false, .im01 true]) :
    (controlAfter i s).im = s.im := by
  unfold controlAfter
  split
  case h_7 y => cases y <;> exact absurd (by simp) h
  case h_13 => exact congrArg ControlPart.im (baseControl_rest (unwrap i) s)
  iterate 6 exact absurd (by simp) h
  all_goals rfl

theorem controlAfter_i {i : Instr} (s : State) (h : i ≠ .ldIA) : (controlAfter i s).i = s.i := by
  unfold controlAfter
  split
  case h_11 => exact absurd rfl h
  case h_13 => exact congrArg ControlPart.i (baseControl_rest (unwrap i) s)
  all_goals rfl

theorem controlAfter_r {i : Instr} (s : State) (h : i ≠ .ldRA) : (controlAfter i s).r = s.r := by
  unfold controlAfter
  split
  case h_12 => exact absurd rfl h
  case h_13 => exact congrArg ControlPart.r (baseControl_rest (unwrap i) s)
  all_goals rfl

theorem controlAfter_host (i : Instr) (s : State) :
    (controlAfter i s).nmiPending = s.nmiPending ∧ (controlAfter i s).inputs = s.inputs := by
  unfold controlAfter
  split
  iterate 12 exact ⟨rfl, rfl⟩
  exact ⟨congrArg ControlPart.nmiPending (baseControl_rest (unwrap i) s),
    congrArg ControlPart.inputs (baseControl_rest (unwrap i) s)⟩

/-- Settles O12: EX AF,AF' and EXX alone write an alternate register, by the control part each instruction leaves. -/
theorem alternatesMoveOnlyByExchange : Obligations.AlternatesMoveOnlyByExchange := by
  intro i s t hrow hex hexx hexec x hx
  have h : t.control = _ := (control_exec i s hrow t hexec).trans (controlAfter_alternates s hex hexx)
  fin_cases hx
  · exact congrArg ControlPart.altA h
  · exact congrArg ControlPart.altF h
  · exact congrArg ControlPart.altB h
  · exact congrArg ControlPart.altC h
  · exact congrArg ControlPart.altD h
  · exact congrArg ControlPart.altE h
  · exact congrArg ControlPart.altH h
  · exact congrArg ControlPart.altL h

/-- Settles O13: the writers of each field, by the control part each instruction leaves. -/
theorem controlStateHasFewWriters : Obligations.ControlStateHasFewWriters := by
  intro i s t hrow hexec
  have h : t.control = controlAfter i s := control_exec i s hrow t hexec
  obtain ⟨hnmi, hinputs⟩ := controlAfter_host i s
  refine ⟨fun hei hdi => ?_, fun hei hdi hreti hretn hmirror => ?_, fun him => ?_, fun hi => ?_, fun hhalt => ?_, ?_, ?_⟩
  · exact (congrArg ControlPart.iff2 h).trans (controlAfter_iff2 s hei hdi)
  · exact (congrArg ControlPart.iff1 h).trans (controlAfter_iff1 s hei hdi hreti hretn hmirror)
  · exact (congrArg ControlPart.im h).trans (controlAfter_im s him)
  · exact (congrArg ControlPart.i h).trans (controlAfter_i s hi)
  · exact (congrArg ControlPart.halted h).trans (controlAfter_halted s hhalt)
  · exact (congrArg ControlPart.nmiPending h).trans hnmi
  · exact (congrArg ControlPart.inputs h).trans hinputs

/-! ## The control part a step leaves -/

theorem control_endStep {block : IntBlock} {air : Bool} {res : Result} {c : ControlPart} (h : Ends res (HasControl c)) :
    Ends (endStep block air res) (HasControl { c with intBlock := block, ldAir := air }) :=
  ends_andThen h fun u hu => ends_next (by rw [HasControl, ← (hu : u.control = c)]; rfl)

/-- The control part of a step that takes an interrupt: the acceptance, then the end of the step (R300, R912, R913). -/
def acceptanceControl (s : State) (iff2 : Bool) : ControlPart :=
  { (s.beginStep.enterInterrupt iff2).control with intBlock := .none, ldAir := false }

theorem control_step_nmi {s : State} (hk : stepKind s.nextInput s.beginStep = .nmi) :
    Ends (step s) (HasControl { acceptanceControl s s.iff2 with nmiPending := false }) := by
  rw [step, hk]
  exact control_endStep (control_acceptNmi s.beginStep)

theorem control_step_interrupt {s : State} {v : Byte} (hk : stepKind s.nextInput s.beginStep = .interrupt v) :
    Ends (step s) (HasControl (acceptanceControl s false)) := by
  rw [step, hk]
  exact control_endStep (control_acceptInt v s.beginStep)

theorem control_step_haltedCycle {s : State} (hk : stepKind s.nextInput s.beginStep = .haltedCycle) :
    Ends (step s) (HasControl { s.beginStep.countM1.control with intBlock := .none, ldAir := false }) := by
  rw [step, hk]
  exact control_endStep (ends_next rfl)

/-- A step that runs an instruction has fetched it, and leaves the control part the instruction leaves, with the hidden bits of the
end of the step (R300, R302). -/
theorem step_instruction {s t : State} (hk : stepKind s.nextInput s.beginStep = .instruction) (h : step s = .next t) :
    ∃ i u, fetchInstr s.beginStep = .ok (i, u) ∧ FetchedAs i.m1Cycles s.beginStep u ∧
      t.control = { controlAfter i u with intBlock := (endOf i).1, ldAir := (endOf i).2 } := by
  have hrun : runInstr s.beginStep = .next t := by rwa [step, hk] at h
  unfold runInstr at hrun
  split at hrun
  · rename_i i u hfetch
    obtain ⟨hrow, hu⟩ := fetchInstr_eq_ok hfetch
    exact ⟨i, u, hfetch, hu, control_endStep (control_exec i u hrow) t hrun⟩
  · cases hrun

theorem halted_of_instruction {s : State} (hk : stepKind s.nextInput s.beginStep = .instruction) : s.halted = false :=
  ((stepKind_instruction _ _).1 hk).2.2

/-! ## The hidden bits at the end of a step -/

/-- An ignored prefix (R324). -/
def IsIgnoredPrefix (i : Instr) : Prop := (∃ n, i = .ignoredDd n) ∨ ∃ n, i = .ignoredFd n

/-- EI under a DD or FD blocks INT as EI does (R323). -/
theorem endOf_ddUnprefixed (inner : Instr) :
    endOf (.ddUnprefixed inner) = (if inner = .ei then .intOnly else .none, false) := rfl

theorem endOf_fdUnprefixed (inner : Instr) :
    endOf (.fdUnprefixed inner) = (if inner = .ei then .intOnly else .none, false) := rfl

theorem endOf_intOnly (i : Instr) : (endOf i).1 = .intOnly ↔ unwrap i = .ei := by
  cases i with
  | ddUnprefixed inner => rw [endOf_ddUnprefixed, unwrap]; split <;> simp [*]
  | fdUnprefixed inner => rw [endOf_fdUnprefixed, unwrap]; split <;> simp [*]
  | ei => exact ⟨fun _ => rfl, fun _ => rfl⟩
  | _ => exact ⟨nofun, nofun⟩

theorem endOf_all (i : Instr) : (endOf i).1 = .all ↔ IsIgnoredPrefix i := by
  cases i with
  | ddUnprefixed inner => rw [endOf_ddUnprefixed]; split <;> simp [IsIgnoredPrefix]
  | fdUnprefixed inner => rw [endOf_fdUnprefixed]; split <;> simp [IsIgnoredPrefix]
  | ignoredDd n => exact ⟨fun _ => .inl ⟨n, rfl⟩, fun _ => rfl⟩
  | ignoredFd n => exact ⟨fun _ => .inr ⟨n, rfl⟩, fun _ => rfl⟩
  | _ => exact ⟨nofun, by rintro (⟨_, ⟨⟩⟩ | ⟨_, ⟨⟩⟩)⟩

theorem endOf_air (i : Instr) : (endOf i).2 = true ↔ i = .ldAI ∨ i = .ldAR := by
  cases i with
  | ldAI => exact ⟨fun _ => .inl rfl, fun _ => rfl⟩
  | ldAR => exact ⟨fun _ => .inr rfl, fun _ => rfl⟩
  | _ => exact ⟨nofun, by rintro (⟨⟨⟩⟩ | ⟨⟨⟩⟩)⟩

/-- An instruction that leaves int_block set records no LD A,I or LD A,R, and neither it nor those halts. -/
theorem endOf_block_air {i : Instr} (h : (endOf i).1 ≠ .none) : (endOf i).2 = false ∧ unwrap i ≠ .halt := by
  cases hblock : (endOf i).1 with
  | none => exact absurd hblock h
  | intOnly =>
    have hei := (endOf_intOnly i).1 hblock
    refine ⟨Bool.eq_false_iff.2 fun hair => ?_, by rw [hei]; nofun⟩
    rcases (endOf_air i).1 hair with rfl | rfl <;> cases hei
  | all =>
    rcases (endOf_all i).1 hblock with ⟨n, rfl⟩ | ⟨n, rfl⟩ <;> exact ⟨rfl, nofun⟩

theorem unwrap_ne_halt_of_air {i : Instr} (h : (endOf i).2 = true) : unwrap i ≠ .halt := by
  rcases (endOf_air i).1 h with rfl | rfl <;> nofun

/-! ## The invariant -/

/-- `InvControl`, said of the control part (10_state.md R111, R116, R119). -/
def ControlPart.Consistent (c : ControlPart) : Prop :=
  (c.iff1 = true → c.iff2 = true) ∧
    (c.intBlock = .intOnly → c.iff1 = true) ∧
    (c.intBlock ≠ .none → c.halted = false ∧ c.ldAir = false) ∧
    (c.ldAir = true → c.halted = false)

theorem invControl_iff (s : State) : InvControl s ↔ s.control.Consistent := Iff.rfl

/-- Only EI, DI and the returns from an interrupt write IFF1, and each leaves IFF2 set where it sets IFF1 (R612, R613, R817). -/
theorem controlAfter_iff1_imp_iff2 {i : Instr} {s : State} (h : s.iff1 = true → s.iff2 = true) :
    (controlAfter i s).iff1 = true → (controlAfter i s).iff2 = true := by
  by_cases hei : unwrap i = .ei
  · rw [controlAfter_of_ei s hei]
    exact fun _ => rfl
  by_cases hdi : unwrap i = .di
  · rw [controlAfter_of_di s hdi]
    nofun
  rw [controlAfter_iff2 s hei hdi]
  by_cases hret : i = .reti ∨ i = .retn ∨ ∃ y, i = .retnMirror y
  · rcases hret with rfl | rfl | ⟨y, rfl⟩ <;> exact id
  · rw [not_or, not_or, not_exists] at hret
    rw [controlAfter_iff1 s hei hdi hret.1 hret.2.1 hret.2.2]
    exact h

/-- An instruction in a state that is not halted leaves the control part consistent, with the hidden bits of its end. -/
theorem consistent_controlAfter {i : Instr} {s : State} (hiff : s.iff1 = true → s.iff2 = true) (hhalted : s.halted = false) :
    ({ controlAfter i s with intBlock := (endOf i).1, ldAir := (endOf i).2 } : ControlPart).Consistent := by
  refine ⟨controlAfter_iff1_imp_iff2 hiff, fun hblock => ?_, fun hblock => ?_, fun hair => ?_⟩
  · exact congrArg ControlPart.iff1 (controlAfter_of_ei s ((endOf_intOnly i).1 hblock))
  · obtain ⟨hair, hhalt⟩ := endOf_block_air hblock
    exact ⟨(controlAfter_halted s hhalt).trans hhalted, hair⟩
  · exact (controlAfter_halted s (unwrap_ne_halt_of_air hair)).trans hhalted

/-- Settles O7: an acceptance clears IFF1 and the hidden bits, a halted cycle clears the hidden bits, and an instruction runs in a
state that is not halted. -/
theorem stepKeepsControlBits : Obligations.StepKeepsControlBits := by
  intro s t hs hstep
  rw [invControl_iff]
  cases hk : stepKind s.nextInput s.beginStep with
  | nmi =>
    rw [(control_step_nmi hk t hstep : t.control = _)]
    exact ⟨nofun, nofun, fun h => absurd rfl h, nofun⟩
  | interrupt v =>
    rw [(control_step_interrupt hk t hstep : t.control = _)]
    exact ⟨nofun, nofun, fun h => absurd rfl h, nofun⟩
  | haltedCycle =>
    rw [(control_step_haltedCycle hk t hstep : t.control = _)]
    exact ⟨hs.1, nofun, fun h => absurd rfl h, nofun⟩
  | instruction =>
    obtain ⟨i, u, -, hu, ht⟩ := step_instruction hk hstep
    rw [ht]
    have hcontrol := hu.control
    have hiff1 : u.iff1 = s.iff1 := congrArg ControlPart.iff1 hcontrol
    have hiff2 : u.iff2 = s.iff2 := congrArg ControlPart.iff2 hcontrol
    have hhalted : u.halted = s.halted := congrArg ControlPart.halted hcontrol
    exact consistent_controlAfter (by rw [hiff1, hiff2]; exact hs.1) (hhalted.trans (halted_of_instruction hk))

/-! ## What the next sampling point accepts -/

/-- Where the step has fetched an instruction, what it runs is that instruction. -/
theorem runs_iff {s u : State} {i : Instr} (p : Instr → Prop) (hk : stepKind s.nextInput s.beginStep = .instruction)
    (hfetch : fetchInstr s.beginStep = .ok (i, u)) : Runs s p ↔ p i := by
  constructor
  · rintro ⟨-, j, v, hj, hp⟩
    obtain ⟨rfl, -⟩ := Prod.mk.inj (Except.ok.inj (hfetch.symm.trans hj))
    exact hp
  · exact fun hp => ⟨hk, i, u, hfetch, hp⟩

/-- A step that runs no instruction leaves both hidden bits clear (R300). -/
theorem hiddenBits_of_not_instruction {s t : State} (hk : stepKind s.nextInput s.beginStep ≠ .instruction)
    (h : step s = .next t) : t.intBlock = .none ∧ t.ldAir = false := by
  cases hkind : stepKind s.nextInput s.beginStep with
  | nmi =>
    have ht : t.control = _ := control_step_nmi hkind t h
    exact ⟨congrArg ControlPart.intBlock ht, congrArg ControlPart.ldAir ht⟩
  | interrupt v =>
    have ht : t.control = _ := control_step_interrupt hkind t h
    exact ⟨congrArg ControlPart.intBlock ht, congrArg ControlPart.ldAir ht⟩
  | haltedCycle =>
    have ht : t.control = _ := control_step_haltedCycle hkind t h
    exact ⟨congrArg ControlPart.intBlock ht, congrArg ControlPart.ldAir ht⟩
  | instruction => exact absurd hkind hk

/-- After EI only an NMI is accepted (R116, R910). -/
theorem stepKind_of_intOnly {u : State} (hblock : u.intBlock = .intOnly) (hhalted : u.halted = false) :
    stepKind u.nextInput u.beginStep = if u.nmiPending || u.nextInput.nmiEdge then .nmi else .instruction := by
  simp [stepKind, hblock, hhalted]

/-- After an ignored prefix nothing is accepted (R116, R324, R910). -/
theorem stepKind_of_all {u : State} (hblock : u.intBlock = .all) (hhalted : u.halted = false) :
    stepKind u.nextInput u.beginStep = .instruction := by
  simp [stepKind, hblock, hhalted]

/-- A step that leaves int_block set leaves the machine running. -/
theorem halted_of_blocked {s t : State} (h : step s = .next t) (hblock : t.intBlock ≠ .none) : t.halted = false := by
  by_cases hk : stepKind s.nextInput s.beginStep = .instruction
  · obtain ⟨i, u, -, hu, ht⟩ := step_instruction hk h
    have hend : t.intBlock = (endOf i).1 := congrArg ControlPart.intBlock ht
    calc t.halted = (controlAfter i u).halted := congrArg ControlPart.halted ht
      _ = u.halted := controlAfter_halted u (endOf_block_air (hend ▸ hblock)).2
      _ = s.halted := congrArg ControlPart.halted hu.control
      _ = false := halted_of_instruction hk
  · exact absurd (hiddenBits_of_not_instruction hk h).1 hblock

/-- The hidden bits a step leaves say which instruction it ran (R300). -/
theorem hiddenBits_iff_runs {s t : State} (hstep : step s = .next t) :
    (t.intBlock = .intOnly ↔ Runs s fun i => unwrap i = .ei) ∧ (t.intBlock = .all ↔ Runs s IsIgnoredPrefix) ∧
      (t.ldAir = true ↔ Runs s fun i => i = .ldAI ∨ i = .ldAR) := by
  by_cases hk : stepKind s.nextInput s.beginStep = .instruction
  · obtain ⟨i, u, hfetch, -, ht⟩ := step_instruction hk hstep
    have hblock : t.intBlock = (endOf i).1 := congrArg ControlPart.intBlock ht
    have hair : t.ldAir = (endOf i).2 := congrArg ControlPart.ldAir ht
    rw [runs_iff _ hk hfetch, runs_iff _ hk hfetch, runs_iff _ hk hfetch, hblock, hair]
    exact ⟨endOf_intOnly i, endOf_all i, endOf_air i⟩
  · obtain ⟨hblock, hair⟩ := hiddenBits_of_not_instruction hk hstep
    have hruns : ∀ p, ¬Runs s p := fun p h => hk h.1
    simp [hblock, hair, hruns]

/-- Settles O19: the end of the step records EI, an ignored prefix or LD A,I and LD A,R of the instruction it ran, and a step that
leaves int_block set leaves a running machine, whose next sampling point reads int_block and the NMI latch alone. -/
theorem hiddenBitsAtStepEnd : Obligations.HiddenBitsAtStepEnd := by
  intro s t hstep
  obtain ⟨hintOnly, hall, hair⟩ := hiddenBits_iff_runs hstep
  have hrunning : t.intBlock ≠ .none → t.halted = false := halted_of_blocked hstep
  refine ⟨hintOnly, hall, hair, fun queue => ⟨fun hblock => ?_, fun hblock => ?_⟩⟩
  · exact stepKind_of_intOnly (u := { t with inputs := queue }) hblock (hrunning (by rw [hblock]; nofun))
  · exact stepKind_of_all (u := { t with inputs := queue }) hblock (hrunning (by rw [hblock]; nofun))

/-! ## The refresh register -/

/-- R112: bits 6:0 count modulo 128, bit 7 stays. -/
theorem toNat_refresh (r : Byte) : (refresh r).toNat = r.toNat / 128 * 128 + (r.toNat % 128 + 1) % 128 := by
  have hhigh : r.toNat &&& 128 = r.toNat / 128 * 128 := by
    have hbit : (r.toNat.testBit 7).toNat = r.toNat / 128 % 2 := Nat.toNat_testBit r.toNat 7
    have hand : r.toNat &&& 128 = (r.toNat.testBit 7).toNat * 128 := Nat.and_two_pow r.toNat 7
    omega
  have hlow : (r.toNat + 1) % 256 &&& 127 = (r.toNat % 128 + 1) % 128 := by
    have hmask : (r.toNat + 1) % 256 &&& 127 = (r.toNat + 1) % 256 % 128 := Nat.and_two_pow_sub_one_eq_mod _ 7
    omega
  have hor : 2 ^ 7 * (r.toNat / 128) + (r.toNat % 128 + 1) % 128 = 2 ^ 7 * (r.toNat / 128) ||| (r.toNat % 128 + 1) % 128 :=
    Nat.two_pow_add_eq_or_of_lt (by omega) _
  have hbits : (refresh r).toNat = (r.toNat &&& 128) ||| ((r.toNat + 1) % 256 &&& 127) := by
    simp [refresh]
  rw [hbits, hhigh, hlow, Nat.mul_comm]
  exact hor.symm

/-- An instruction of more than one byte has two opcode fetches where its first byte is a prefix, else one (R112, R302). -/
theorem m1Cycles_eq (i : Instr) :
    i.m1Cycles = if i.length = 1 then 1
      else if (encode i).head? ∈ [some 0xCB#8, some 0xED#8, some 0xDD#8, some 0xFD#8] then 2 else 1 := by
  unfold Instr.m1Cycles Instr.length
  split
  · rfl
  · rfl
  · split
    · rename_i hbytes
      simp [hbytes]
    · rename_i hshort
      rcases hbytes : encode i with _ | ⟨b, _ | ⟨b', rest⟩⟩
      · rfl
      · rfl
      · exact absurd hbytes (hshort b b' rest)

/-- Settles O11: the arithmetic of one count, the counts of each kind of step, and the opcode fetches of an instruction. -/
theorem refreshCountsOpcodeFetches : Obligations.RefreshCountsOpcodeFetches := by
  refine ⟨toNat_refresh, fun s t hstep => ?_, fun i _ _ => m1Cycles_eq i⟩
  cases hk : stepKind s.nextInput s.beginStep with
  | nmi => exact congrArg ControlPart.r (control_step_nmi hk t hstep : t.control = _)
  | interrupt v => exact congrArg ControlPart.r (control_step_interrupt hk t hstep : t.control = _)
  | haltedCycle => exact congrArg ControlPart.r (control_step_haltedCycle hk t hstep : t.control = _)
  | instruction =>
    obtain ⟨i, u, hfetch, hu, ht⟩ := step_instruction hk hstep
    refine ⟨i, u, hfetch, congrArg ControlPart.r hu.control, fun hi => ?_⟩
    exact (congrArg ControlPart.r ht).trans (controlAfter_r u hi)

end Sys2Proof.Machine
end

section
/-! The bytes of the RAM components and the components themselves: reads after writes, the canonical form, what a bus access does, and
what attach and detach bind (20_memory.md R201 to R214, R227, R230). -/

namespace Sys2Proof.Machine

/-! ## Memory: equal reads are equal data -/

namespace Memory

theorem get_cons_self (k : Nat) (v : Byte) (rest : Memory) : get ((k, v) :: rest) k = v := if_pos rfl

theorem get_cons_of_ne {k a : Nat} (v : Byte) (rest : Memory) (h : a ≠ k) : get ((k, v) :: rest) a = get rest a := if_neg h

theorem get_below_head {a k : Nat} {v : Byte} {rest : Memory} (hwf : wf ((k, v) :: rest) = true) (h : a < k) :
    get ((k, v) :: rest) a = unlisted := by
  obtain ⟨-, hrest, -⟩ := (wf_cons k v rest).1 hwf
  exact get_eq_unlisted_of_above _ a (List.forall_mem_cons.2 ⟨h, fun cell hc => h.trans (hrest cell hc)⟩)

/-- The lowest address a canonical memory lists does not read as unlisted, so a memory that reads the same there lists an address no
higher. -/
theorem head_le_of_get_eq {j k : Nat} {v w : Byte} {m n : Memory} (hm : wf ((j, v) :: m) = true)
    (hn : wf ((k, w) :: n) = true) (h : get ((j, v) :: m) j = get ((k, w) :: n) j) : k ≤ j := by
  by_contra hlt
  rw [get_cons_self, get_below_head hn (not_le.1 hlt)] at h
  exact ((wf_cons j v m).1 hm).1 h

/-- Two canonical memories that read the same everywhere are the same list. -/
theorem ext_of_wf {m n : Memory} (hm : m.wf = true) (hn : n.wf = true) (h : ∀ a, m.get a = n.get a) : m = n := by
  induction m generalizing n with
  | nil =>
    cases n with
    | nil => rfl
    | cons cell n =>
      have hget := h cell.1
      rw [get_cons_self] at hget
      exact absurd hget.symm ((wf_cons _ _ n).1 hn).1
  | cons cell m ih =>
    obtain ⟨j, v⟩ := cell
    cases n with
    | nil =>
      have hget := h j
      rw [get_cons_self] at hget
      exact absurd hget ((wf_cons j v m).1 hm).1
    | cons cell n =>
      obtain ⟨k, w⟩ := cell
      obtain rfl : j = k := le_antisymm (head_le_of_get_eq hn hm (h k).symm) (head_le_of_get_eq hm hn (h j))
      obtain ⟨-, hmrest, hmwf⟩ := (wf_cons j v m).1 hm
      obtain ⟨-, hnrest, hnwf⟩ := (wf_cons j w n).1 hn
      have hvw : v = w := by simpa only [get_cons_self] using h j
      have hrest : m = n := ih hmwf hnwf fun a => by
        by_cases ha : a = j
        · rw [ha, get_eq_unlisted_of_above m j hmrest, get_eq_unlisted_of_above n j hnrest]
        · simpa only [get_cons_of_ne _ _ ha] using h a
      rw [hvw, hrest]

end Memory

/-- Settles O24: the laws of a write, and the extensionality of the canonical form. -/
theorem memoryReadAfterWrite : Obligations.MemoryReadAfterWrite :=
  ⟨fun m a b v hm => ⟨Memory.wf_set m a v hm, Memory.get_set m a b v⟩, fun _ _ => Memory.ext_of_wf⟩

/-! ## Regions: the bounds, then the kind -/

theorem Component.contains_iff (c : Component) (a : Word) :
    c.contains a = true ↔ c.base ≤ a.toNat ∧ a.toNat < c.base + c.size := by
  simp only [Component.contains, Bool.and_eq_true, decide_eq_true_eq]
  omega

theorem Component.romByte_of_image {c : Component} {a : Word} {v : Byte} (h : c.image[a.toNat - c.base]? = some v) :
    c.romByte a = v := by
  rw [Component.romByte, List.getD_eq_getElem?_getD, h, Option.getD_some]

namespace AddressSpace

theorem read_unbound {bus : AddressSpace} {a : Word} (mem : Memory) (h : bus.boundTo (slotOf a) = none) :
    bus.read mem a = .error (.outOfRange a none) := by
  simp only [read, h]

theorem write_unbound {bus : AddressSpace} {a : Word} (mem : Memory) (v : Byte) (h : bus.boundTo (slotOf a) = none) :
    bus.write mem a v = .error (.outOfRange a none) := by
  simp only [write, h]

theorem read_bound {bus : AddressSpace} {a : Word} {c : Component} (mem : Memory) (h : bus.boundTo (slotOf a) = some c) :
    bus.read mem a = c.read mem a := by
  simp only [read, h]

theorem write_bound {bus : AddressSpace} {a : Word} {c : Component} (mem : Memory) (v : Byte)
    (h : bus.boundTo (slotOf a) = some c) : bus.write mem a v = c.write mem a v := by
  simp only [write, h]

end AddressSpace

/-- Settles O23: the access is dispatched to the component bound to the slot, which checks its bounds and then its kind. -/
theorem regionsCheckBoundsThenKind : Obligations.RegionsCheckBoundsThenKind := by
  intro s a
  split
  · rename_i hslot
    exact ⟨AddressSpace.read_unbound s.mem hslot, fun v => AddressSpace.write_unbound s.mem v hslot⟩
  · rename_i c hslot
    have hread : s.peek a = c.read s.mem a := AddressSpace.read_bound s.mem hslot
    have hwrite (v : Byte) : s.bus.write s.mem a v = c.write s.mem a v := AddressSpace.write_bound s.mem v hslot
    simp only [Reads, WriteFails, hread, hwrite, Component.read, Component.write, c.contains_iff]
    split
    · cases c.kind with
      | ram => exact ⟨rfl, fun _ => rfl⟩
      | rom => exact ⟨fun v hv => congrArg Except.ok (Component.romByte_of_image hv), fun _ => rfl⟩
    · exact ⟨rfl, fun _ => rfl⟩

/-! ## Attach and detach -/

theorem Component.valid_iff (c : Component) : c.valid = true ↔ 1 ≤ c.size ∧ c.base + c.size - 1 ≤ 0xFFFF := by
  simp only [Component.valid, Bool.and_eq_true, decide_eq_true_eq]
  omega

theorem Component.bindsSlot_iff (c : Component) (slot : Nat) :
    c.bindsSlot slot = true ↔ c.firstSlot ≤ slot ∧ slot ≤ c.lastSlot := by
  simp only [Component.bindsSlot, Bool.and_eq_true, decide_eq_true_eq]

/-- A valid component binds a slot, and only slots of the address space (R201, R202). -/
theorem Component.slots_of_valid {c : Component} (h : c.valid = true) : c.firstSlot ≤ c.lastSlot ∧ c.lastSlot < 16 := by
  have hvalid := c.valid_iff.1 h
  unfold Component.firstSlot Component.lastSlot
  omega

/-- Valid components that share no slot have disjoint slot ranges. -/
theorem Component.disjoint_of_no_common_slot {c d : Component} (hc : c.valid = true) (hd : d.valid = true)
    (h : ∀ slot, c.bindsSlot slot = true → ¬d.bindsSlot slot = true) :
    c.lastSlot < d.firstSlot ∨ d.lastSlot < c.firstSlot := by
  have hmax := h (max c.firstSlot d.firstSlot)
  have hc := (slots_of_valid hc).1
  have hd := (slots_of_valid hd).1
  simp only [Component.bindsSlot_iff] at hmax
  omega

namespace AddressSpace

theorem boundTo_eq_none_iff (bus : AddressSpace) (slot : Nat) :
    bus.boundTo slot = none ↔ ∀ c ∈ bus.components, ¬c.bindsSlot slot = true :=
  List.find?_eq_none

/-- On a well-formed bus at most one component binds a slot. -/
theorem eq_of_common_slot {bus : AddressSpace} (hwf : bus.wf) {c d : Component} {slot : Nat} (hc : c ∈ bus.components)
    (hd : d ∈ bus.components) (hcs : c.bindsSlot slot = true) (hds : d.bindsSlot slot = true) : c = d := by
  have hsymm : Std.Symm fun c d : Component => c.lastSlot < d.firstSlot ∨ d.lastSlot < c.firstSlot := ⟨fun _ _ => Or.symm⟩
  by_contra hne
  have hdisjoint := hwf.2.forall hc hd hne
  rw [Component.bindsSlot_iff] at hcs hds
  omega

theorem mem_of_boundTo {bus : AddressSpace} {slot : Nat} {c : Component} (h : bus.boundTo slot = some c) :
    c ∈ bus.components ∧ c.bindsSlot slot = true :=
  ⟨List.mem_of_find?_eq_some h, List.find?_some (p := fun c : Component => c.bindsSlot slot) h⟩

theorem boundTo_eq_some_iff {bus : AddressSpace} (hwf : bus.wf) (slot : Nat) (c : Component) :
    bus.boundTo slot = some c ↔ c ∈ bus.components ∧ c.bindsSlot slot = true := by
  refine ⟨mem_of_boundTo, fun ⟨hc, hcs⟩ => ?_⟩
  cases hbound : bus.boundTo slot with
  | none => exact absurd hcs ((boundTo_eq_none_iff bus slot).1 hbound c hc)
  | some d =>
    obtain ⟨hd, hds⟩ := mem_of_boundTo hbound
    rw [eq_of_common_slot hwf hd hc hds hcs]

/-- A component that shares no slot with an attached one may be attached: the bus stays well-formed. -/
theorem wf_append {bus : AddressSpace} {c : Component} (hwf : bus.wf) (hvalid : c.valid = true)
    (hfree : ∀ slot, c.bindsSlot slot = true → bus.boundTo slot = none) : (⟨bus.components ++ [c]⟩ : AddressSpace).wf := by
  refine ⟨?_, List.pairwise_append.2 ⟨hwf.2, List.pairwise_singleton _ c, fun d hd e he => ?_⟩⟩
  · exact List.forall_mem_append.2 ⟨hwf.1, List.forall_mem_singleton.2 hvalid⟩
  · obtain rfl := List.mem_singleton.1 he
    exact Component.disjoint_of_no_common_slot (hwf.1 d hd) hvalid fun slot hds hcs =>
      (boundTo_eq_none_iff bus slot).1 (hfree slot hcs) d hd hds

/-- Appending a component whose slots are free binds them, and no other slot. -/
theorem boundTo_append {bus : AddressSpace} {c : Component}
    (hfree : ∀ slot, c.bindsSlot slot = true → bus.boundTo slot = none) (slot : Nat) :
    (⟨bus.components ++ [c]⟩ : AddressSpace).boundTo slot =
      if c.bindsSlot slot = true then some c else bus.boundTo slot := by
  have happend : (⟨bus.components ++ [c]⟩ : AddressSpace).boundTo slot =
      (bus.boundTo slot).or (if c.bindsSlot slot = true then some c else none) := by
    rw [boundTo, List.find?_append, List.find?_singleton]
    rfl
  rw [happend]
  split
  · rename_i hcs
    rw [hfree slot hcs, Option.none_or]
  · exact Option.or_none

theorem wf_erase {bus : AddressSpace} (hwf : bus.wf) (c : Component) : (⟨bus.components.erase c⟩ : AddressSpace).wf :=
  ⟨fun d hd => hwf.1 d (List.mem_of_mem_erase hd), hwf.2.sublist List.erase_sublist⟩

theorem nodup_of_wf {bus : AddressSpace} (hwf : bus.wf) : bus.components.Nodup :=
  hwf.2.imp_of_mem fun hc _ h => by
    rintro rfl
    have hslots := (Component.slots_of_valid (hwf.1 _ hc)).1
    omega

/-- Erasing a component frees the slots of its range. -/
theorem boundTo_erase {bus : AddressSpace} (hwf : bus.wf) {c : Component} (hc : c ∈ bus.components) (slot : Nat) :
    (⟨bus.components.erase c⟩ : AddressSpace).boundTo slot =
      if c.bindsSlot slot = true then none else bus.boundTo slot := by
  ext d
  rw [boundTo_eq_some_iff (wf_erase hwf c), (nodup_of_wf hwf).mem_erase_iff]
  split
  · rename_i hcs
    refine ⟨fun ⟨⟨hne, hd⟩, hds⟩ => absurd (eq_of_common_slot hwf hd hc hds hcs) hne, nofun⟩
  · rename_i hcs
    rw [boundTo_eq_some_iff hwf, and_assoc, and_iff_right_iff_imp]
    rintro ⟨-, hds⟩ rfl
    exact hcs hds

/-! ### What attach and detach answer -/

theorem attach_of_not_valid (bus : AddressSpace) {c : Component} (h : ¬c.valid = true) :
    bus.attach c = .error (.badComponent c) := if_neg h

/-- A valid component with a bound slot in its range is refused, by a slot of the range that is bound. -/
theorem attach_of_bound (bus : AddressSpace) {c : Component} (hvalid : c.valid = true)
    (h : ∃ slot, c.bindsSlot slot = true ∧ bus.boundTo slot ≠ none) :
    ∃ slot, bus.attach c = .error (.duplicateBinding c slot) ∧ c.bindsSlot slot = true ∧ bus.boundTo slot ≠ none := by
  obtain ⟨slot, hcs, hbound⟩ := h
  have hslot : slot < 16 := ((c.bindsSlot_iff slot).1 hcs).2.trans_lt (Component.slots_of_valid hvalid).2
  cases hfind : (List.range 16).find? fun slot => c.bindsSlot slot && (bus.boundTo slot).isSome with
  | none => exact absurd (List.find?_eq_none.1 hfind slot (List.mem_range.2 hslot)) (by simp [hcs, hbound])
  | some first =>
    have hfirst := List.find?_some hfind
    simp only [Bool.and_eq_true, Option.isSome_iff_ne_none] at hfirst
    exact ⟨first, by simp only [attach, hvalid, if_true, hfind], hfirst⟩

theorem attach_of_free (bus : AddressSpace) {c : Component} (hvalid : c.valid = true)
    (hfree : ∀ slot, c.bindsSlot slot = true → bus.boundTo slot = none) :
    bus.attach c = .ok ⟨bus.components ++ [c]⟩ := by
  have hfind : (List.range 16).find? (fun slot => c.bindsSlot slot && (bus.boundTo slot).isSome) = none :=
    List.find?_eq_none.2 fun slot _ => by simpa using hfree slot
  simp only [attach, hvalid, if_true, hfind]

end AddressSpace

/-- Settles O22: attach appends a component where every slot of its range is free, detach erases it, and on a well-formed bus a slot
is bound to the one component whose range holds it. -/
theorem attachAndDetachBindSlots : Obligations.AttachAndDetachBindSlots := by
  intro bus c hwf
  have hrange (slot : Nat) :
      c.base / 0x1000 ≤ slot ∧ slot ≤ (c.base + c.size - 1) / 0x1000 ↔ c.bindsSlot slot = true :=
    (c.bindsSlot_iff slot).symm
  refine ⟨fun hbad => ?_, fun hsize hend => ⟨fun hbound => ?_, fun hfree => ?_⟩, fun hc => if_neg hc, fun hc => ?_⟩
  · exact bus.attach_of_not_valid (by rwa [c.valid_iff])
  · obtain ⟨slot, hfirst, hlast, hslot⟩ := hbound
    obtain ⟨bound, hattach, hcs, hbound⟩ :=
      bus.attach_of_bound (c.valid_iff.2 ⟨hsize, hend⟩) ⟨slot, (hrange slot).1 ⟨hfirst, hlast⟩, hslot⟩
    obtain ⟨hfirst, hlast⟩ := (hrange bound).2 hcs
    exact ⟨bound, hattach, hfirst, hlast, hbound⟩
  · have hvalid := c.valid_iff.2 ⟨hsize, hend⟩
    have hfree : ∀ slot, c.bindsSlot slot = true → bus.boundTo slot = none := fun slot hcs =>
      let ⟨hfirst, hlast⟩ := (hrange slot).2 hcs
      hfree slot hfirst hlast
    refine ⟨_, bus.attach_of_free hvalid hfree, AddressSpace.wf_append hwf hvalid hfree, fun slot => ?_⟩
    simp only [hrange]
    exact AddressSpace.boundTo_append hfree slot
  · refine ⟨_, if_pos hc, AddressSpace.wf_erase hwf c, fun slot => ?_⟩
    simp only [hrange]
    exact AddressSpace.boundTo_erase hwf hc slot

end Sys2Proof.Machine
end

section
/-! What an instruction, an interrupt acceptance and a step do to memory, the bus and the parameters, whether they complete or fault:
stores to RAM, and nothing else (20_memory.md R205, R206, R208, R213). -/

namespace Sys2Proof.Machine

/-! ## The part of the state that a bus access reads -/

/-- Memory and the configuration: what reads and writes depend on, and the parameters (R201, R205, R213). -/
def State.memoryPart (s : State) : Memory × AddressSpace × Params := (s.mem, s.bus, s.params)

@[simp] theorem memoryPart_tick (s : State) (n : Nat) : (s.tick n).memoryPart = s.memoryPart := rfl

@[simp] theorem memoryPart_setFlags (s : State) (fl : Flags) : (s.setFlags fl).memoryPart = s.memoryPart := rfl

@[simp] theorem memoryPart_setHl (s : State) (v : Word) : (s.setHl v).memoryPart = s.memoryPart := rfl

@[simp] theorem memoryPart_setReg (s : State) (r : Reg8) (v : Byte) : (s.setReg r v).memoryPart = s.memoryPart := by
  simp [State.memoryPart]

@[simp] theorem memoryPart_setPair (s : State) (rp : RegPair) (v : Word) :
    (s.setPair rp v).memoryPart = s.memoryPart := by
  simp [State.memoryPart]

@[simp] theorem memoryPart_setStackPair (s : State) (rp : StackPair) (v : Word) :
    (s.setStackPair rp v).memoryPart = s.memoryPart := by
  simp [State.memoryPart]

@[simp] theorem memoryPart_setXy (s : State) (x : XY) (v : Word) : (s.setXy x v).memoryPart = s.memoryPart := by
  simp [State.memoryPart]

@[simp] theorem memoryPart_setHalf (s : State) (x : XY) (hf : Half) (v : Byte) :
    (s.setHalf x hf v).memoryPart = s.memoryPart := by
  simp [State.memoryPart]

@[simp] theorem memoryPart_setRegX (s : State) (x : XY) (r : RegX) (v : Byte) :
    (s.setRegX x r v).memoryPart = s.memoryPart := by
  simp [State.memoryPart]

@[simp] theorem memoryPart_repeatBlock (again : Bool) (s : State) : (repeatBlock again s).memoryPart = s.memoryPart := by
  cases again <;> rfl

@[simp] theorem memoryPart_repeatBlockIo (again : Bool) (s : State) :
    (repeatBlockIo again s).memoryPart = s.memoryPart := by
  cases again <;> rfl

@[simp] theorem memoryPart_drawAirPv (s : State) : (drawAirPv s).memoryPart = s.memoryPart := by
  cases h : s.ldAir with
  | false => rw [drawAirPv_of_clear s h]
  | true => rw [drawAirPv_of_set s h]; rfl

/-! ## Stores to RAM -/

/-- One byte of a RAM component is stored. -/
def RamStore (bus : AddressSpace) (m n : Memory) : Prop :=
  ∃ (a : Word) (v : Byte), bus.isRam a = true ∧ n = m.set a.toNat v

/-- From `s` to `t` the bus and the parameters are as they were, and memory has changed by stores to RAM only. -/
structure RamChanges (s t : State) : Prop where
  bus : t.bus = s.bus
  params : t.params = s.params
  mem : Relation.ReflTransGen (RamStore s.bus) s.mem t.mem

theorem RamChanges.of_same {s t : State} (h : t.memoryPart = s.memoryPart) : RamChanges s t := by
  obtain ⟨hmem, hbus, hparams⟩ : t.mem = s.mem ∧ t.bus = s.bus ∧ t.params = s.params := by
    simpa [State.memoryPart] using h
  exact ⟨hbus, hparams, hmem ▸ .refl⟩

theorem RamChanges.trans {s t u : State} (h : RamChanges s t) (h' : RamChanges t u) : RamChanges s u :=
  ⟨h'.bus.trans h.bus, h'.params.trans h.params, h.mem.trans (h.bus ▸ h'.mem)⟩

theorem ramChanges_put {s : State} {a : Word} (v : Byte) (h : s.writable a = true) : RamChanges s (s.put a v) :=
  ⟨rfl, rfl, .single ⟨a, v, h, rfl⟩⟩

/-! ## Results: what the state left behind may differ in -/

/-- Whatever state the result leaves, next state or fault, differs from `s` by stores to RAM in memory, bus and parameters. -/
def StoresRam (s : State) (res : Result) : Prop := ∀ t, leaves res = some t → RamChanges s t

theorem storesRam_next {s u : State} (h : u.memoryPart = s.memoryPart) : StoresRam s (.next u) := by
  rintro t ⟨⟩
  exact .of_same h

theorem storesRam_fault {s : State} {e : Fault} (h : e.left.memoryPart = s.memoryPart) : StoresRam s (.fault e) := by
  rintro t ⟨⟩
  exact .of_same h

theorem storesRam_accessError (s : State) (e : AccessError) : StoresRam s (.fault (e.toFault s)) :=
  storesRam_fault (by rw [left_toFault])

theorem storesRam_refused (s : State) (e : Refusal) : StoresRam s (.refused e) := by
  rintro t ⟨⟩

theorem StoresRam.after {s u : State} {res : Result} (hsu : RamChanges s u) (h : StoresRam u res) : StoresRam s res :=
  fun t ht => hsu.trans (h t ht)

theorem storesRam_ite {s : State} {c : Prop} [Decidable c] {res res' : Result} (h : StoresRam s res)
    (h' : StoresRam s res') : StoresRam s (if c then res else res') := by
  split
  · exact h
  · exact h'

theorem storesRam_andThen {s : State} {res : Result} {k : State → Result} (h : StoresRam s res)
    (hk : ∀ u, StoresRam u (k u)) : StoresRam s (andThen res k) := by
  cases res with
  | next u => exact .after (h u rfl) (hk u)
  | fault e => exact h
  | refused e => exact h

/-! ## The shared operations store to RAM only -/

theorem storesRam_loadByte {s : State} {a : Word} {k : Byte → Result} (hk : ∀ v, StoresRam s (k v)) :
    StoresRam s (loadByte s a k) := by
  rcases loadByte_cases s a k with ⟨v, -, h⟩ | ⟨e, -, h⟩ <;> rw [h]
  · exact hk v
  · exact storesRam_accessError s e

theorem storesRam_storeByte {s : State} {a : Word} {v : Byte} {k : State → Result} (hk : ∀ u, StoresRam u (k u)) :
    StoresRam s (storeByte s a v k) := by
  rcases storeByte_cases s a v k with ⟨hram, h⟩ | ⟨e, -, -, h⟩ <;> rw [h]
  · exact .after (ramChanges_put v hram) (hk _)
  · exact storesRam_accessError s e

theorem storesRam_loadWord {s : State} {a : Word} {k : Word → Result} (hk : ∀ v, StoresRam s (k v)) :
    StoresRam s (loadWord s a k) :=
  storesRam_loadByte fun _ => storesRam_loadByte fun _ => hk _

theorem storesRam_storeWord {s : State} {a v : Word} {k : State → Result} (hk : ∀ u, StoresRam u (k u)) :
    StoresRam s (storeWord s a v k) :=
  storesRam_storeByte fun _ => storesRam_storeByte hk

/-- SP moves before each byte of a push, which changes nothing that a store depends on (41_load16.md R470). -/
theorem storesRam_push16 {s : State} {v : Word} {k : State → Result} (hk : ∀ u, StoresRam u (k u)) :
    StoresRam s (push16 s v k) := by
  unfold push16
  refine .after (u := { s with sp := s.sp - 1#16 }) (.of_same rfl) (storesRam_storeByte fun u => ?_)
  exact .after (u := { u with sp := u.sp - 1#16 }) (.of_same rfl) (storesRam_storeByte hk)

theorem storesRam_pop16 {s : State} {k : Word → State → Result} (hk : ∀ v u, StoresRam u (k v u)) :
    StoresRam s (pop16 s k) := by
  unfold pop16
  refine storesRam_loadByte fun lo => ?_
  refine .after (u := { s with sp := s.sp + 1#16 }) (.of_same rfl) (storesRam_loadByte fun hi => ?_)
  exact .after (u := { s with sp := s.sp + 1#16 + 1#16 }) (.of_same rfl) (hk _ _)

theorem storesRam_modifyByte {s : State} {a : Word} {f : Byte → Byte} {k : Byte → State → Result}
    (hk : ∀ v u, StoresRam u (k v u)) : StoresRam s (modifyByte s a f k) :=
  storesRam_loadByte fun v => storesRam_storeByte (hk (f v))

theorem storesRam_modifyFlags {s : State} {a : Word} {f : Byte → Flags → Byte × Flags} {k : Byte → State → Result}
    (hk : ∀ v u, StoresRam u (k v u)) : StoresRam s (modifyFlags s a f k) :=
  storesRam_loadByte fun v => storesRam_storeByte fun u =>
    .after (u := u.setFlags (f v s.flags).2) (.of_same rfl) (hk _ _)

/-! ## The families of instructions -/

theorem storesRam_loadReg (s : State) (r : Reg8) (a : Word) (n : Nat) : StoresRam s (loadReg s r a n) :=
  storesRam_loadByte fun _ => storesRam_next (by simp)

theorem storesRam_storeAt (s : State) (a : Word) (v : Byte) (n : Nat) : StoresRam s (storeAt s a v n) :=
  storesRam_storeByte fun _ => storesRam_next rfl

theorem storesRam_loadWord_tick {s : State} (a : Word) (n : Nat) {keep : Word → State}
    (hkeep : ∀ v, (keep v).memoryPart = s.memoryPart) : StoresRam s (loadWord s a fun v => .next ((keep v).tick n)) :=
  storesRam_loadWord fun v => storesRam_next (hkeep v)

theorem storesRam_storeWord_tick (s : State) (a v : Word) (n : Nat) :
    StoresRam s (storeWord s a v fun u => .next (u.tick n)) :=
  storesRam_storeWord fun _ => storesRam_next rfl

theorem storesRam_push16_tick (s : State) (v : Word) (n : Nat) : StoresRam s (push16 s v fun u => .next (u.tick n)) :=
  storesRam_push16 fun _ => storesRam_next rfl

theorem storesRam_pop16_tick (s : State) (n : Nat) {keep : Word → State → State}
    (hkeep : ∀ v u, (keep v u).memoryPart = u.memoryPart) :
    StoresRam s (pop16 s fun v u => .next ((keep v u).tick n)) :=
  storesRam_pop16 fun v u => storesRam_next (hkeep v u)

theorem storesRam_exchangeTop (s : State) (v : Word) (n : Nat) {keep : Word → State → State}
    (hkeep : ∀ w u, (keep w u).memoryPart = u.memoryPart) : StoresRam s (exchangeTop s v n keep) :=
  storesRam_loadByte fun _ => storesRam_loadByte fun _ => storesRam_storeByte fun _ => storesRam_storeByte fun u =>
    storesRam_next (hkeep _ u)

theorem storesRam_call (s : State) (v : Word) (n : Nat) : StoresRam s (call s v n) :=
  storesRam_push16 fun _ => storesRam_next rfl

theorem storesRam_popPc (s : State) (n : Nat) : StoresRam s (popPc s n) :=
  storesRam_pop16 fun _ _ => storesRam_next rfl

theorem storesRam_returnFromInterrupt (s : State) : StoresRam s (returnFromInterrupt s) :=
  storesRam_pop16 fun _ _ => storesRam_next rfl

theorem storesRam_changeBitAt (s : State) (a : Word) (change : Byte → Byte) (n : Nat) :
    StoresRam s (changeBitAt s a change n) :=
  storesRam_modifyByte fun _ _ => storesRam_next rfl

theorem storesRam_changeBitCopy (s : State) (a : Word) (change : Byte → Byte) (r : Reg8) :
    StoresRam s (changeBitCopy s a change r) :=
  storesRam_modifyByte fun _ _ => storesRam_next (by simp)

/-- INC, DEC, the rotates and the shifts of a byte in memory. -/
theorem storesRam_modifyFlags_tick (s : State) (a : Word) (f : Byte → Flags → Byte × Flags) (n : Nat) :
    StoresRam s (modifyFlags s a f fun _ u => .next (u.tick n)) :=
  storesRam_modifyFlags fun _ _ => storesRam_next rfl

theorem storesRam_rotateCopy (op : RotOp) (s : State) (a : Word) (r : Reg8) : StoresRam s (rotateCopy op s a r) :=
  storesRam_modifyFlags fun _ _ => storesRam_next (by simp)

theorem storesRam_rotateDigit (s : State) (newByte lowDigit : Byte → Byte) :
    StoresRam s (rotateDigit s newByte lowDigit) :=
  storesRam_loadByte fun _ => storesRam_storeByte fun _ => storesRam_next rfl

section
variable (dir : Dir) (s : State) {k : State → State} (hk : ∀ u, (k u).memoryPart = u.memoryPart)
include hk

theorem storesRam_blockLoad : StoresRam s (blockLoad dir s fun u => .next (k u)) :=
  storesRam_loadByte fun _ => storesRam_storeByte fun _ => storesRam_next (hk _)

theorem storesRam_blockCompare : StoresRam s (blockCompare dir s fun u => .next (k u)) :=
  storesRam_loadByte fun _ => storesRam_next (hk _)

theorem storesRam_blockIn : StoresRam s (blockIn dir s fun u => .next (k u)) := by
  unfold blockIn
  exact .after (u := (ioRead s s.bc).2) (.of_same rfl) (storesRam_storeByte fun _ => storesRam_next (hk _))

theorem storesRam_blockOut : StoresRam s (blockOut dir s fun u => .next (k u)) :=
  storesRam_loadByte fun _ => storesRam_next (hk _)

end

/-! ## Instructions -/

/-- An unprefixed instruction stores to RAM only, by the accesses it makes. -/
theorem storesRam_execUnprefixed (i : Instr) (s : State) : StoresRam s (execUnprefixed i s) := by
  cases i with
  | nop | addHlRp | rlca | rrca | rla | rra | daa | cpl | scf | ccf | exAfAf | exx | jpHl | ldSpHl | exDeHl | di | ei | halt
  | jrE | jpNn | outAtNA | inAAtN | addAS | addAN | adcAS | adcAN | subS | subN | sbcAS | sbcAN | andS | andN | xorS | xorN
  | orS | orN | cpS | cpN =>
    exact storesRam_next rfl
  | ldRpNn | incRp | decRp | incR | decR | ldRN | ldRS => exact storesRam_next (by simp)
  | jpCcNn | jrCcE | djnzE => exact storesRam_ite (storesRam_next rfl) (storesRam_next rfl)
  | addAAtHl | adcAAtHl | subAtHl | sbcAAtHl | andAtHl | xorAtHl | orAtHl | cpAtHl =>
    exact storesRam_loadByte fun _ => storesRam_next rfl
  | ldRAtHl | ldAAtBc | ldAAtDe | ldAAtNn => exact storesRam_loadReg s _ _ _
  | ldAtBcA | ldAtDeA | ldAtNnA | ldAtHlN | ldAtHlS => exact storesRam_storeAt s _ _ _
  | incAtHl | decAtHl => exact storesRam_modifyFlags_tick s _ _ _
  | ldHlAtNn nn => exact storesRam_loadWord_tick nn 16 (memoryPart_setHl s)
  | ldAtNnHl => exact storesRam_storeWord_tick s _ _ _
  | pushRp2 => exact storesRam_push16_tick s _ _
  | popRp2 rp => exact storesRam_pop16_tick s 10 fun v u => memoryPart_setStackPair u rp v
  | exAtSpHl => exact storesRam_exchangeTop s _ _ fun v u => memoryPart_setHl u v
  | callNn | rstP => exact storesRam_call s _ _
  | callCcNn => exact storesRam_ite (storesRam_call s _ _) (storesRam_next rfl)
  | ret => exact storesRam_popPc s _
  | retCc => exact storesRam_ite (storesRam_popPc s _) (storesRam_next rfl)
  | _ => exact storesRam_fault rfl

/-- A row of the unprefixed table means by itself what it means behind a DD or FD. -/
theorem storesRam_exec_of_unprefixed {i : Instr} {s : State} (hexec : exec i s = execUnprefixed i s) :
    StoresRam s (exec i s) :=
  hexec ▸ storesRam_execUnprefixed i s

/-- An instruction stores to RAM only, by the accesses it makes. -/
theorem storesRam_exec (i : Instr) (s : State) (hi : i.isPrefixRow = false) : StoresRam s (exec i s) := by
  cases i with
  | prefixCb | prefixEd | prefixDd | prefixFd | prefixDdCb | prefixFdCb => cases hi
  | ddUnprefixed inner | fdUnprefixed inner =>
    exact storesRam_andThen (storesRam_execUnprefixed inner s) fun _ => storesRam_next rfl
  | ignoredDd | ignoredFd | im0 | im0Mirror | im1 | im1Mirror | im2 | im2Mirror | im01 | nopEd7 | nopEd | ldIA | ldRA | ldAI
  | ldAR | neg | negMirror | inFAtC | outAtCR | outAtC0 | adcHlRp | sbcHlRp | ldSpIx | ldSpIy | jpIx | jpIy | bitBR
  | addIxRp | addIyRp | incIx | incIy | decIx | decIy | ldIxNn | ldIyNn
  | addAIxHalf | addAIyHalf | adcAIxHalf | adcAIyHalf | subIxHalf | subIyHalf | sbcAIxHalf | sbcAIyHalf | andIxHalf
  | andIyHalf | xorIxHalf | xorIyHalf | orIxHalf | orIyHalf | cpIxHalf | cpIyHalf =>
    exact storesRam_next rfl
  | resBR | setBR | ldRSIxHalf | ldRSIyHalf | ldIxHalfN | ldIyHalfN | incIxHalf | incIyHalf | decIxHalf | decIyHalf
  | rlcR | rrcR | rlR | rrR | slaR | sraR | sllR | srlR =>
    exact storesRam_next (by simp)
  | inRAtC r => exact storesRam_next (memoryPart_setReg (ioRead s s.bc).2 r _)
  | addAAtIxd | addAAtIyd | adcAAtIxd | adcAAtIyd | subAtIxd | subAtIyd | sbcAAtIxd | sbcAAtIyd | andAtIxd | andAtIyd
  | xorAtIxd | xorAtIyd | orAtIxd | orAtIyd | cpAtIxd | cpAtIyd | bitBAtHl | bitBAtIxd | bitBAtIyd | bitBAtIxdMirror
  | bitBAtIydMirror =>
    exact storesRam_loadByte fun _ => storesRam_next rfl
  | ldRAtIxd | ldRAtIyd => exact storesRam_loadReg s _ _ _
  | ldAtIxdS | ldAtIydS | ldAtIxdN | ldAtIydN => exact storesRam_storeAt s _ _ _
  | rlcAtHl | rrcAtHl | rlAtHl | rrAtHl | slaAtHl | sraAtHl | sllAtHl | srlAtHl | rlcAtIxd | rlcAtIyd | rrcAtIxd | rrcAtIyd
  | rlAtIxd | rlAtIyd | rrAtIxd | rrAtIyd | slaAtIxd | slaAtIyd | sraAtIxd | sraAtIyd | sllAtIxd | sllAtIyd | srlAtIxd
  | srlAtIyd | incAtIxd | incAtIyd | decAtIxd | decAtIyd =>
    exact storesRam_modifyFlags_tick s _ _ _
  | ldRRlcAtIxd | ldRRlcAtIyd | ldRRrcAtIxd | ldRRrcAtIyd | ldRRlAtIxd | ldRRlAtIyd | ldRRrAtIxd | ldRRrAtIyd | ldRSlaAtIxd
  | ldRSlaAtIyd | ldRSraAtIxd | ldRSraAtIyd | ldRSllAtIxd | ldRSllAtIyd | ldRSrlAtIxd | ldRSrlAtIyd =>
    exact storesRam_rotateCopy _ s _ _
  | rld | rrd => exact storesRam_rotateDigit s _ _
  | resBAtHl | setBAtHl | resBAtIxd | resBAtIyd | setBAtIxd | setBAtIyd => exact storesRam_changeBitAt s _ _ _
  | ldRResBAtIxd | ldRResBAtIyd | ldRSetBAtIxd | ldRSetBAtIyd => exact storesRam_changeBitCopy s _ _ _
  | ldRpAtNn rp nn => exact storesRam_loadWord_tick nn 20 (memoryPart_setPair s rp)
  | ldHlAtNnEd nn => exact storesRam_loadWord_tick nn 20 (memoryPart_setHl s)
  | ldIxAtNn nn => exact storesRam_loadWord_tick nn 20 (memoryPart_setXy s .ix)
  | ldIyAtNn nn => exact storesRam_loadWord_tick nn 20 (memoryPart_setXy s .iy)
  | ldAtNnRp | ldAtNnHlEd | ldAtNnIx | ldAtNnIy => exact storesRam_storeWord_tick s _ _ _
  | pushIx | pushIy => exact storesRam_push16_tick s _ _
  | popIx => exact storesRam_pop16_tick s 14 fun v u => memoryPart_setXy u .ix v
  | popIy => exact storesRam_pop16_tick s 14 fun v u => memoryPart_setXy u .iy v
  | reti | retn | retnMirror => exact storesRam_returnFromInterrupt s
  | exAtSpIx => exact storesRam_exchangeTop s _ _ fun v u => memoryPart_setXy u .ix v
  | exAtSpIy => exact storesRam_exchangeTop s _ _ fun v u => memoryPart_setXy u .iy v
  | ldi | ldd => exact storesRam_blockLoad _ s fun u => memoryPart_tick u 16
  | ldir | lddr => exact storesRam_blockLoad _ s fun u => memoryPart_repeatBlock (loadRepeats u) u
  | cpi | cpd => exact storesRam_blockCompare _ s fun u => memoryPart_tick u 16
  | cpir | cpdr => exact storesRam_blockCompare _ s fun u => memoryPart_repeatBlock (compareRepeats u) u
  | ini | ind => exact storesRam_blockIn _ s fun u => memoryPart_tick u 16
  | inir | indr => exact storesRam_blockIn _ s fun u => memoryPart_repeatBlockIo (ioRepeats u) u
  | outi | outd => exact storesRam_blockOut _ s fun u => memoryPart_tick u 16
  | otir | otdr => exact storesRam_blockOut _ s fun u => memoryPart_repeatBlockIo (ioRepeats u) u
  | _ => exact storesRam_exec_of_unprefixed rfl

/-! ## The fetch -/

/-- A fetch leaves memory, bus and parameters as they are, also in the state its fault carries (30_encoding.md R303, R304). -/
def FetchKeepsMemory {α : Type} (s : State) (res : Except Fault (α × State)) : Prop :=
  match res with
  | .ok (_, u) => u.memoryPart = s.memoryPart
  | .error e => e.left.memoryPart = s.memoryPart

theorem fetchKeepsMemory_bind {α β : Type} {s : State} {res : Except Fault (α × State)}
    {f : α × State → Except Fault (β × State)} (h : FetchKeepsMemory s res)
    (hf : ∀ a u, FetchKeepsMemory u (f (a, u))) : FetchKeepsMemory s (res >>= f) := by
  cases res with
  | error e => exact h
  | ok out =>
    obtain ⟨a, u⟩ := out
    have hu : u.memoryPart = s.memoryPart := h
    have hres := hf a u
    unfold FetchKeepsMemory at hres ⊢
    rwa [hu] at hres

theorem fetchKeepsMemory_accessError {α : Type} (s : State) (e : AccessError) :
    FetchKeepsMemory s (.error (e.toFault s) : Except Fault (α × State)) :=
  congrArg State.memoryPart (left_toFault e s)

theorem fetchKeepsMemory_fetchOpcode (s : State) : FetchKeepsMemory s (fetchOpcode s) := by
  unfold fetchOpcode
  split
  · exact rfl
  · exact fetchKeepsMemory_accessError s _

theorem fetchKeepsMemory_fetchByte (s : State) : FetchKeepsMemory s (fetchByte s) := by
  unfold fetchByte
  split
  · exact rfl
  · exact fetchKeepsMemory_accessError s _

theorem fetchKeepsMemory_fetchBytes (n : Nat) (s : State) : FetchKeepsMemory s (fetchBytes n s) := by
  induction n generalizing s with
  | zero => exact rfl
  | succ n ih =>
    exact fetchKeepsMemory_bind (fetchKeepsMemory_fetchByte s) fun _ u => fetchKeepsMemory_bind (ih u) fun _ _ => rfl

theorem fetchKeepsMemory_fetchOperands (bytes : List Byte) (n : Nat) (s : State) :
    FetchKeepsMemory s (fetchOperands bytes n s) := by
  unfold fetchOperands checkPolicy
  split
  · exact rfl
  · refine fetchKeepsMemory_bind (fetchKeepsMemory_fetchBytes n s) fun rest u => ?_
    dsimp only
    split <;> exact rfl

theorem fetchKeepsMemory_fetchCb (s : State) : FetchKeepsMemory s (fetchCb s) :=
  fetchKeepsMemory_bind (fetchKeepsMemory_fetchOpcode s) fun _ _ => fetchKeepsMemory_fetchOperands _ _ _

theorem fetchKeepsMemory_fetchEd (s : State) : FetchKeepsMemory s (fetchEd s) :=
  fetchKeepsMemory_bind (fetchKeepsMemory_fetchOpcode s) fun _ _ => fetchKeepsMemory_fetchOperands _ _ _

theorem fetchKeepsMemory_fetchXyCb (x : XY) (s : State) : FetchKeepsMemory s (fetchXyCb x s) :=
  fetchKeepsMemory_bind (fetchKeepsMemory_fetchByte s) fun _ u =>
    fetchKeepsMemory_bind (fetchKeepsMemory_fetchByte u) fun _ _ => fetchKeepsMemory_fetchOperands _ _ _

theorem fetchKeepsMemory_fetchXy (x : XY) (s : State) : FetchKeepsMemory s (fetchXy x s) := by
  unfold fetchXy
  split
  · exact fetchKeepsMemory_accessError s _
  · split
    · exact fetchKeepsMemory_fetchOperands _ _ _
    · refine fetchKeepsMemory_bind (fetchKeepsMemory_fetchOpcode s) fun b u => ?_
      dsimp only
      split
      · exact fetchKeepsMemory_fetchXyCb x u
      · exact fetchKeepsMemory_fetchOperands _ _ _

theorem fetchKeepsMemory_fetchInstr (s : State) : FetchKeepsMemory s (fetchInstr s) := by
  refine fetchKeepsMemory_bind (fetchKeepsMemory_fetchOpcode s) fun b u => ?_
  dsimp only
  split
  · exact fetchKeepsMemory_fetchCb u
  split
  · exact fetchKeepsMemory_fetchEd u
  split
  · exact fetchKeepsMemory_fetchXy .ix u
  split
  · exact fetchKeepsMemory_fetchXy .iy u
  · exact fetchKeepsMemory_fetchOperands _ _ _

/-! ## Steps -/

theorem storesRam_takeInterrupt (s : State) (keep : Bool) (n : Nat) (target : State → (Word → Result) → Result)
    (htarget : ∀ u k, (∀ v, StoresRam u (k v)) → StoresRam u (target u k)) :
    StoresRam s (takeInterrupt s keep n target) :=
  .after (u := s.enterInterrupt keep) (.of_same rfl) <| storesRam_push16 fun u => htarget u _ fun _ => storesRam_next rfl

theorem storesRam_acceptNmi (s : State) : StoresRam s (acceptNmi s) :=
  .after (u := { s with nmiPending := false }) (.of_same rfl) <| storesRam_takeInterrupt _ s.iff2 11 _ fun _ _ hk => hk _

theorem storesRam_acceptInt (busByte : Byte) (s : State) : StoresRam s (acceptInt busByte s) := by
  have hdraw : RamChanges s (drawAirPv s) := .of_same (memoryPart_drawAirPv s)
  unfold acceptInt
  split
  · split
    · exact .after hdraw (storesRam_takeInterrupt _ false 13 _ fun _ _ hk => hk _)
    · exact storesRam_refused s _
  · exact .after hdraw (storesRam_takeInterrupt _ false 13 _ fun _ _ hk => hk _)
  · exact .after hdraw (storesRam_takeInterrupt _ false 19 _ fun _ _ hk => storesRam_loadWord hk)

theorem storesRam_endStep {s : State} (block : IntBlock) (air : Bool) {res : Result} (h : StoresRam s res) :
    StoresRam s (endStep block air res) :=
  storesRam_andThen h fun _ => storesRam_next rfl

theorem storesRam_runInstr (s : State) : StoresRam s (runInstr s) := by
  have hfetch := fetchKeepsMemory_fetchInstr s
  unfold runInstr
  split
  · rename_i i u hok
    rw [hok] at hfetch
    exact .after (.of_same hfetch) (storesRam_endStep _ _ (storesRam_exec i u (fetchInstr_eq_ok hok).1))
  · rename_i e herror
    rw [herror] at hfetch
    exact storesRam_fault hfetch

/-- Whatever a step turns out to be, and whether it completes or faults, it stores to RAM and changes nothing else of memory, bus and
parameters. -/
theorem storesRam_step (s : State) : StoresRam s (step s) := by
  refine .after (u := s.beginStep) (.of_same rfl) ?_
  unfold step
  split
  · exact storesRam_endStep _ _ (storesRam_acceptNmi _)
  · exact storesRam_endStep _ _ (storesRam_acceptInt _ _)
  · exact storesRam_endStep _ _ (storesRam_next rfl)
  · exact storesRam_runInstr _

/-- Settles O9: a step leaves the bus, and a read outside RAM depends on nothing else. -/
theorem stepKeepsBusAndRom : Obligations.StepKeepsBusAndRom := by
  intro s t hleft
  have h := storesRam_step s t hleft
  refine ⟨h.bus, h.params, fun a ha => ?_⟩
  rw [State.peek, State.peek, h.bus]
  exact s.bus.read_of_not_isRam _ _ a ha

/-! ## The invariant -/

/-- The memory is canonical and lists bytes of RAM components only. -/
def Memory.FitsRam (m : Memory) (bus : AddressSpace) : Prop :=
  m.wf = true ∧ ∀ cell ∈ m, cell.1 < 0x10000 ∧ bus.isRam (BitVec.ofNat 16 cell.1) = true

theorem invMemory_iff (s : State) : InvMemory s ↔ s.mem.FitsRam s.bus ∧ s.bus.wf :=
  ⟨fun ⟨hwf, hbus, hram⟩ => ⟨⟨hwf, hram⟩, hbus⟩, fun ⟨⟨hwf, hram⟩, hbus⟩ => ⟨hwf, hbus, hram⟩⟩

theorem RamStore.fitsRam {bus : AddressSpace} {m n : Memory} (h : RamStore bus m n) (hm : m.FitsRam bus) :
    n.FitsRam bus := by
  obtain ⟨a, v, hram, rfl⟩ := h
  obtain ⟨hwf, hlisted⟩ := hm
  refine ⟨Memory.wf_set m a.toNat v hwf, fun cell hcell => ?_⟩
  rcases Memory.mem_set m a.toNat v cell hcell with rfl | hold
  · exact ⟨a.isLt, by rwa [BitVec.ofNat_toNat, BitVec.setWidth_eq]⟩
  · exact hlisted cell hold

theorem Memory.FitsRam.of_stores {bus : AddressSpace} {m n : Memory} (hm : m.FitsRam bus)
    (h : Relation.ReflTransGen (RamStore bus) m n) : n.FitsRam bus := by
  induction h with
  | refl => exact hm
  | tail _ hstore ih => exact hstore.fitsRam ih

/-- Settles O6: a step changes memory by stores to RAM only, and each of them keeps the form. -/
theorem stepKeepsMemoryForm : Obligations.StepKeepsMemoryForm := by
  intro s t hs hstep
  obtain ⟨hmem, hbus⟩ := (invMemory_iff s).1 hs
  have h : RamChanges s t := storesRam_step s t (by rw [hstep]; rfl)
  exact (invMemory_iff t).2 ⟨h.bus ▸ hmem.of_stores h.mem, h.bus ▸ hbus⟩

end Sys2Proof.Machine
end

section
/-! What the decode tables answer: for every opcode the number of operand bytes after it, and the well-formed instruction whose
encoding is the opcode and those bytes (30_encoding.md R302, R307, R312 to R327). -/

namespace Sys2Proof

open Machine (xyByte)

/-! ## The answer of a table -/

/-- The answer to the bytes `bs` after an opcode that `n` operand bytes follow: `truncated` where they are too few, else an instruction
and its length, with a property that may speak of the operand bytes. -/
structure Answers (P : List Byte → Instr → Prop) (len n : Nat) (bs : List Byte) (d : Decoded) : Prop where
  short : bs.length < n → d = .error .truncated
  complete : n ≤ bs.length → ∃ i, P (bs.take n) i ∧ d = .ok (i, len)

theorem answers_plain {P : List Byte → Instr → Prop} {len : Nat} {bs : List Byte} {i : Instr} (h : P [] i) :
    Answers P len 0 bs (plain len i) :=
  ⟨fun hlt => absurd hlt (Nat.not_lt_zero _), fun _ => ⟨i, h, rfl⟩⟩

theorem answers_withByte {P : List Byte → Instr → Prop} {len : Nat} {bs : List Byte} {f : Byte → Instr}
    (h : ∀ n, P [n] (f n)) : Answers P len 1 bs (withByte len bs f) := by
  rcases bs with _ | ⟨n, rest⟩
  · exact ⟨fun _ => rfl, nofun⟩
  · exact ⟨fun hlt => by simp at hlt, fun _ => ⟨f n, h n, rfl⟩⟩

theorem answers_withTwo {P : List Byte → Instr → Prop} {len : Nat} {bs : List Byte} {f : Byte → Byte → Instr}
    (h : ∀ d n, P [d, n] (f d n)) : Answers P len 2 bs (withTwo len bs f) := by
  rcases bs with _ | ⟨d, _ | ⟨n, rest⟩⟩
  · exact ⟨fun _ => rfl, nofun⟩
  · exact ⟨fun _ => rfl, fun hle => by simp at hle⟩
  · exact ⟨fun hlt => by simp at hlt, fun _ => ⟨f d n, h d n, rfl⟩⟩

theorem nnLo_append (hi lo : Byte) : nnLo (hi ++ lo) = lo := Machine.loByte_pair hi lo

theorem nnHi_append (hi lo : Byte) : nnHi (hi ++ lo) = hi := Machine.hiByte_pair hi lo

theorem answers_withWord {P : List Byte → Instr → Prop} {len : Nat} {bs : List Byte} {f : Word → Instr}
    (h : ∀ nn, P [nnLo nn, nnHi nn] (f nn)) : Answers P len 2 bs (withWord len bs f) :=
  answers_withTwo fun lo hi => by simpa only [nnLo_append, nnHi_append] using h (hi ++ lo)

/-- An instruction, not a prefix alone, with these bytes and this length. -/
structure IsRow (bytes : List Byte) (len : Nat) (i : Instr) : Prop where
  wf : i.wf = true
  notPrefix : i.isPrefixRow = false
  bytes : encode i = bytes
  length : i.length = len

/-- An opcode byte is its three fields (R315). -/
theorem exists_fields (op : Byte) : ∃ (x : Fin 4) (y z : Fin 8), op = opByte (64 * x.val + 8 * y.val + z.val) := by
  refine ⟨⟨op.toNat / 64, by omega⟩, ⟨op.toNat / 8 % 8, by omega⟩, ⟨op.toNat % 8, by omega⟩, ?_⟩
  apply BitVec.eq_of_toNat_eq
  simp only [opByte, BitVec.toNat_ofNat]
  omega

theorem opX_opByte (x : Fin 4) (y z : Fin 8) : opX (opByte (64 * x.val + 8 * y.val + z.val)) = x.val := by
  simp only [opX, opByte, BitVec.toNat_ofNat]
  omega

theorem opY_opByte (x : Fin 4) (y z : Fin 8) : opY (opByte (64 * x.val + 8 * y.val + z.val)) = y.val := by
  simp only [opY, opByte, BitVec.toNat_ofNat]
  omega

theorem opZ_opByte (x : Fin 4) (y z : Fin 8) : opZ (opByte (64 * x.val + 8 * y.val + z.val)) = z.val := by
  simp only [opZ, opByte, BitVec.toNat_ofNat]
  omega

/-! ## The unprefixed table -/

/-- A DD or FD affects the opcode (R321). -/
def affected (op : Byte) : Bool := (decodeAffected .ix op []).isSome

/-- A row of the unprefixed table with this opcode byte and these operand bytes; a DD or FD may stand before it where its opcode is not
affected (R323). -/
structure IsBaseCell (op : Byte) (args : List Byte) (i : Instr) : Prop where
  row : IsRow (op :: args) (args.length + 1) i
  encodeBase : encodeBase i = op :: args
  unaffected : (affected op || i.unaffected) = true

/-- The cell of the unprefixed table as the fields give it. -/
def BaseCell (op : Byte) : Prop :=
  ∀ bs, Answers (IsBaseCell op) (baseOperands op + 1) (baseOperands op) bs (decodeBase op bs)

theorem baseCell_x0 (y z : Fin 8) : BaseCell (opByte (8 * y.val + z.val)) := by
  fin_cases z <;> fin_cases y
  iterate 2 exact fun _ => answers_plain ⟨⟨rfl, rfl, rfl, rfl⟩, rfl, rfl⟩
  iterate 6 exact fun _ => answers_withByte fun _ => ⟨⟨rfl, rfl, rfl, rfl⟩, rfl, rfl⟩
  iterate 4
    · exact fun _ => answers_withWord fun _ => ⟨⟨rfl, rfl, rfl, rfl⟩, rfl, rfl⟩
    · exact fun _ => answers_plain ⟨⟨rfl, rfl, rfl, rfl⟩, rfl, rfl⟩
  iterate 4 exact fun _ => answers_plain ⟨⟨rfl, rfl, rfl, rfl⟩, rfl, rfl⟩
  iterate 4 exact fun _ => answers_withWord fun _ => ⟨⟨rfl, rfl, rfl, rfl⟩, rfl, rfl⟩
  iterate 24 exact fun _ => answers_plain ⟨⟨rfl, rfl, rfl, rfl⟩, rfl, rfl⟩
  iterate 8 exact fun _ => answers_withByte fun _ => ⟨⟨rfl, rfl, rfl, rfl⟩, rfl, rfl⟩
  iterate 8 exact fun _ => answers_plain ⟨⟨rfl, rfl, rfl, rfl⟩, rfl, rfl⟩

theorem baseCell_x1 (y z : Fin 8) : BaseCell (opByte (64 + 8 * y.val + z.val)) := by
  fin_cases y <;> fin_cases z <;> exact fun _ => answers_plain ⟨⟨rfl, rfl, rfl, rfl⟩, rfl, rfl⟩

theorem baseCell_x2 (y z : Fin 8) : BaseCell (opByte (128 + 8 * y.val + z.val)) := by
  fin_cases y <;> fin_cases z <;> exact fun _ => answers_plain ⟨⟨rfl, rfl, rfl, rfl⟩, rfl, rfl⟩

theorem baseCell_x3 (y z : Fin 8) (hop : IsPlainByte (opByte (192 + 8 * y.val + z.val))) :
    BaseCell (opByte (192 + 8 * y.val + z.val)) := by
  obtain ⟨hcb, hed, hdd, hfd⟩ := hop
  fin_cases z <;> fin_cases y
  iterate 16 exact fun _ => answers_plain ⟨⟨rfl, rfl, rfl, rfl⟩, rfl, rfl⟩
  iterate 9 exact fun _ => answers_withWord fun _ => ⟨⟨rfl, rfl, rfl, rfl⟩, rfl, rfl⟩
  · exact absurd rfl hcb
  iterate 2 exact fun _ => answers_withByte fun _ => ⟨⟨rfl, rfl, rfl, rfl⟩, rfl, rfl⟩
  iterate 4 exact fun _ => answers_plain ⟨⟨rfl, rfl, rfl, rfl⟩, rfl, rfl⟩
  iterate 8 exact fun _ => answers_withWord fun _ => ⟨⟨rfl, rfl, rfl, rfl⟩, rfl, rfl⟩
  · exact fun _ => answers_plain ⟨⟨rfl, rfl, rfl, rfl⟩, rfl, rfl⟩
  · exact fun _ => answers_withWord fun _ => ⟨⟨rfl, rfl, rfl, rfl⟩, rfl, rfl⟩
  · exact fun _ => answers_plain ⟨⟨rfl, rfl, rfl, rfl⟩, rfl, rfl⟩
  · exact absurd rfl hdd
  · exact fun _ => answers_plain ⟨⟨rfl, rfl, rfl, rfl⟩, rfl, rfl⟩
  · exact absurd rfl hed
  · exact fun _ => answers_plain ⟨⟨rfl, rfl, rfl, rfl⟩, rfl, rfl⟩
  · exact absurd rfl hfd
  iterate 8 exact fun _ => answers_withByte fun _ => ⟨⟨rfl, rfl, rfl, rfl⟩, rfl, rfl⟩
  iterate 8 exact fun _ => answers_plain ⟨⟨rfl, rfl, rfl, rfl⟩, rfl, rfl⟩

theorem answers_decodeBase (op : Byte) (hop : IsPlainByte op) : BaseCell op := by
  obtain ⟨x, y, z, rfl⟩ := exists_fields op
  fin_cases x
  · simpa using baseCell_x0 y z
  · exact baseCell_x1 y z
  · exact baseCell_x2 y z
  · exact baseCell_x3 y z hop

/-! ## The CB and ED tables -/

theorem isRow_decodeCb (op : Byte) : IsRow [0xCB#8, op] 2 (decodeCb op) := by
  have hcells : ∀ (x : Fin 4) (y z : Fin 8), let op := opByte (64 * x.val + 8 * y.val + z.val)
      ((decodeCb op).wf = true ∧ (decodeCb op).isPrefixRow = false) ∧
        encode (decodeCb op) = [0xCB#8, op] ∧ (decodeCb op).length = 2 := by decide
  obtain ⟨x, y, z, rfl⟩ := exists_fields op
  obtain ⟨⟨hwf, hrow⟩, hbytes, hlen⟩ := hcells x y z
  exact ⟨hwf, hrow, hbytes, hlen⟩

/-- An ED opcode and its operand bytes. -/
abbrev IsEdCell (op : Byte) (args : List Byte) (i : Instr) : Prop := IsRow (0xED#8 :: op :: args) (args.length + 2) i

/-- The cell of the ED table as the fields give it. -/
def EdCell (op : Byte) : Prop :=
  ∀ bs, Answers (IsEdCell op) (edOperands op + 2) (edOperands op) bs (decodeEd op bs)

theorem edCell_x1 (y z : Fin 8) : EdCell (opByte (64 + 8 * y.val + z.val)) := by
  fin_cases z <;> fin_cases y
  iterate 24 exact fun _ => answers_plain ⟨rfl, rfl, rfl, rfl⟩
  · exact fun _ => answers_withWord (f := (.ldAtNnRp · .bc)) fun _ => ⟨rfl, rfl, rfl, rfl⟩
  · exact fun _ => answers_withWord fun _ => ⟨rfl, rfl, rfl, rfl⟩
  · exact fun _ => answers_withWord (f := (.ldAtNnRp · .de)) fun _ => ⟨rfl, rfl, rfl, rfl⟩
  iterate 3 exact fun _ => answers_withWord fun _ => ⟨rfl, rfl, rfl, rfl⟩
  · exact fun _ => answers_withWord (f := (.ldAtNnRp · .sp)) fun _ => ⟨rfl, rfl, rfl, rfl⟩
  · exact fun _ => answers_withWord fun _ => ⟨rfl, rfl, rfl, rfl⟩
  iterate 32 exact fun _ => answers_plain ⟨rfl, rfl, rfl, rfl⟩

theorem edCell_x2 (y z : Fin 8) : EdCell (opByte (128 + 8 * y.val + z.val)) := by
  fin_cases y <;> fin_cases z <;> exact fun _ => answers_plain ⟨rfl, rfl, rfl, rfl⟩

/-- Rows 0x00 to 0x3F and 0xC0 to 0xFF (R325). -/
theorem edCell_undefined (op : Byte) (h : opX op = 0 ∨ opX op = 3) : EdCell op := by
  have hn : edOperands op = 0 := by rcases h with h | h <;> simp [edOperands, h]
  have hd : ∀ bs, decodeEd op bs = plain 2 (.nopEd op) := by rcases h with h | h <;> simp [decodeEd, h]
  have hwf : edUndefined op = true := by
    unfold opX at h
    rcases h with h | h <;> simp [edUndefined, h]
  intro bs
  rw [hn, hd]
  exact answers_plain ⟨hwf, rfl, rfl, rfl⟩

theorem answers_decodeEd (op : Byte) : EdCell op := by
  obtain ⟨x, y, z, rfl⟩ := exists_fields op
  fin_cases x
  · exact edCell_undefined _ (.inl (opX_opByte 0 y z))
  · exact edCell_x1 y z
  · exact edCell_x2 y z
  · exact edCell_undefined _ (.inr (opX_opByte 3 y z))

/-! ## The DD and FD tables -/

theorem isSome_decodeAffected (x : XY) (op : Byte) (bs : List Byte) : (decodeAffected x op bs).isSome = affected op := by
  unfold affected decodeAffected
  split
  · unfold decodeXy0
    (repeat' split) <;> rfl
  · unfold decodeXy1
    (repeat' split) <;> rfl
  · unfold decodeXy2
    split <;> rfl
  · unfold decodeXy3
    split <;> rfl

theorem xyOperands_of_not_affected {op : Byte} (h : affected op = false) : xyOperands op = baseOperands op := by
  have hcells : ∀ (x : Fin 4) (y z : Fin 8), affected (opByte (64 * x.val + 8 * y.val + z.val)) = false →
      xyOperands (opByte (64 * x.val + 8 * y.val + z.val)) = baseOperands (opByte (64 * x.val + 8 * y.val + z.val)) := by
    decide
  obtain ⟨x, y, z, rfl⟩ := exists_fields op
  exact hcells x y z h

/-- The second byte after a DD or FD, and its operand bytes. -/
abbrev IsXyCell (x : XY) (op : Byte) (args : List Byte) (i : Instr) : Prop :=
  IsRow (xyByte x :: op :: args) (args.length + 2) i

/-- The affected cell of the DD or FD table as the fields give it. -/
def XyCell (x : XY) (op : Byte) : Prop :=
  ∀ bs d, decodeAffected x op bs = some d → Answers (IsXyCell x op) (xyOperands op + 2) (xyOperands op) bs d

theorem xyCell_x0 (x : XY) (y z : Fin 8) : XyCell x (opByte (8 * y.val + z.val)) := by
  intro bs d hd
  fin_cases z <;> fin_cases y <;> cases hd <;> cases x
  iterate 4 exact answers_plain ⟨rfl, rfl, rfl, rfl⟩
  iterate 2 exact answers_withWord fun _ => ⟨rfl, rfl, rfl, rfl⟩
  iterate 4 exact answers_plain ⟨rfl, rfl, rfl, rfl⟩
  iterate 4 exact answers_withWord fun _ => ⟨rfl, rfl, rfl, rfl⟩
  iterate 4 exact answers_plain ⟨rfl, rfl, rfl, rfl⟩
  iterate 2
    (iterate 4 exact answers_plain ⟨rfl, rfl, rfl, rfl⟩)
    (iterate 2 exact answers_withByte fun _ => ⟨rfl, rfl, rfl, rfl⟩)
  iterate 4 exact answers_withByte fun _ => ⟨rfl, rfl, rfl, rfl⟩
  iterate 2 exact answers_withTwo fun _ _ => ⟨rfl, rfl, rfl, rfl⟩

theorem xyCell_x1 (x : XY) (y z : Fin 8) : XyCell x (opByte (64 + 8 * y.val + z.val)) := by
  intro bs d hd
  fin_cases z <;> fin_cases y <;> cases hd <;> cases x
  iterate 4
    (iterate 4 exact answers_plain ⟨rfl, rfl, rfl, rfl⟩)
    (iterate 2 exact answers_withByte fun _ => ⟨rfl, rfl, rfl, rfl⟩)
  iterate 2
    (iterate 12 exact answers_plain ⟨rfl, rfl, rfl, rfl⟩)
    (iterate 2 exact answers_withByte fun _ => ⟨rfl, rfl, rfl, rfl⟩)
    (iterate 2 exact answers_plain ⟨rfl, rfl, rfl, rfl⟩)
  iterate 14 exact answers_withByte fun _ => ⟨rfl, rfl, rfl, rfl⟩
  iterate 4 exact answers_plain ⟨rfl, rfl, rfl, rfl⟩
  iterate 2 exact answers_withByte fun _ => ⟨rfl, rfl, rfl, rfl⟩

theorem xyCell_x2 (x : XY) (y z : Fin 8) : XyCell x (opByte (128 + 8 * y.val + z.val)) := by
  intro bs d hd
  fin_cases z <;> fin_cases y <;> cases hd <;> cases x
  iterate 32 exact answers_plain ⟨rfl, rfl, rfl, rfl⟩
  iterate 16 exact answers_withByte fun _ => ⟨rfl, rfl, rfl, rfl⟩

theorem xyCell_x3 (x : XY) (y z : Fin 8) : XyCell x (opByte (192 + 8 * y.val + z.val)) := by
  intro bs d hd
  fin_cases z <;> fin_cases y <;> cases hd <;> cases x <;> exact answers_plain ⟨rfl, rfl, rfl, rfl⟩

theorem answers_decodeAffected (x : XY) (op : Byte) : XyCell x op := by
  obtain ⟨col, y, z, rfl⟩ := exists_fields op
  fin_cases col
  · simpa using xyCell_x0 x y z
  · exact xyCell_x1 x y z
  · exact xyCell_x2 x y z
  · exact xyCell_x3 x y z

/-- A DD or FD before an opcode it does not affect (R323). -/
theorem isRow_prefixed (x : XY) {op : Byte} {args : List Byte} {i : Instr} (h : IsBaseCell op args i)
    (hop : affected op = false) : IsXyCell x op args (x.pick (.ddUnprefixed i) (.fdUnprefixed i)) := by
  have hun : i.unaffected = true := by simpa [hop] using h.unaffected
  have hlen : (encodeBase i).length + 1 = args.length + 2 := by rw [h.encodeBase, List.length_cons]
  cases x
  · exact ⟨hun, rfl, congrArg (0xDD#8 :: ·) h.encodeBase, hlen⟩
  · exact ⟨hun, rfl, congrArg (0xFD#8 :: ·) h.encodeBase, hlen⟩

theorem answers_prefixed (x : XY) {op : Byte} {n : Nat} {bs : List Byte} {d : Decoded}
    (h : Answers (IsBaseCell op) (n + 1) n bs d) (hop : affected op = false) :
    Answers (IsXyCell x op) (n + 2) n bs (prefixed x d) := by
  refine ⟨fun hlt => by rw [h.short hlt]; rfl, fun hle => ?_⟩
  obtain ⟨i, hi, rfl⟩ := h.complete hle
  exact ⟨_, isRow_prefixed x hi hop, rfl⟩

theorem answers_decodeXy (x : XY) {op : Byte} (hchain : ChainByte.ofByte op = none) (hcb : op ≠ 0xCB#8) (bs : List Byte) :
    Answers (IsXyCell x op) (xyOperands op + 2) (xyOperands op) bs (decodeXy x (op :: bs)) := by
  have hsome := isSome_decodeAffected x op bs
  simp only [decodeXy, hchain, if_neg hcb]
  split
  · exact answers_decodeAffected x op bs _ ‹_›
  · rename_i hnone
    rw [hnone] at hsome
    rw [xyOperands_of_not_affected hsome.symm]
    exact answers_prefixed x (answers_decodeBase op (isPlainByte_of_not_chain hchain hcb) bs) hsome.symm

/-! ## The DD CB and FD CB tables -/

/-- The code of an operand, 6 for the one in memory (R310). -/
def operandCode (r : Option Reg8) : Nat := r.elim 6 Reg8.code

theorem operandCode_ofCode (z : Fin 8) : operandCode (Reg8.ofCode z.val) = z.val := by
  fin_cases z <;> rfl

theorem isRow_decodeXyCb (x : XY) (d op : Byte) : IsRow [xyByte x, 0xCB#8, d, op] 4 (decodeXyCb x d op) := by
  obtain ⟨col, y, z, rfl⟩ := exists_fields op
  simp only [decodeXyCb, opX_opByte, opY_opByte, opZ_opByte]
  obtain ⟨r, hr⟩ : ∃ r, Reg8.ofCode z.val = r := ⟨_, rfl⟩
  have hz : z.val = operandCode r := by rw [← hr, operandCode_ofCode]
  rw [hr, hz]
  clear hr hz
  cases r <;> fin_cases col <;> fin_cases y <;> cases x <;> exact ⟨rfl, rfl, rfl, rfl⟩

end Sys2Proof
end

section
/-! The encoder and the decoder agree: each instruction reads back from its bytes, and each list of bytes that the decoder accepts begins
with the encoding of the instruction it gives (30_encoding.md R307, R312, R327). -/

namespace Sys2Proof.Laws.RoundTrip

/-- The round trip, constructor by constructor. -/
theorem decode_encode (i : Instr) : Statement i :=
  match i with
  | .ldRpNn rp nn => ldRpNn rp nn | .addHlRp rp => addHlRp rp | .ldAtNnHl nn => ldAtNnHl nn | .ldAtNnA nn => ldAtNnA nn
  | .ldHlAtNn nn => ldHlAtNn nn | .ldAAtNn nn => ldAAtNn nn | .incRp rp => incRp rp | .decRp rp => decRp rp
  | .incR r => incR r | .decR r => decR r | .ldRN r n => ldRN r n | .ldAtHlN n => ldAtHlN n | .djnzE d => djnzE d
  | .jrE d => jrE d | .jrCcE cc d => jrCcE cc d | .ldRS r src => ldRS r src | .ldRAtHl r => ldRAtHl r
  | .ldAtHlS src => ldAtHlS src | .addAS src => addAS src | .addAN n => addAN n | .adcAS src => adcAS src
  | .adcAN n => adcAN n | .subS src => subS src | .subN n => subN n | .sbcAS src => sbcAS src | .sbcAN n => sbcAN n
  | .andS src => andS src | .andN n => andN n | .xorS src => xorS src | .xorN n => xorN n | .orS src => orS src
  | .orN n => orN n | .cpS src => cpS src | .cpN n => cpN n | .retCc cc => retCc cc | .popRp2 rp => popRp2 rp
  | .jpCcNn cc nn => jpCcNn cc nn | .jpNn nn => jpNn nn | .outAtNA n => outAtNA n | .inAAtN n => inAAtN n
  | .callCcNn cc nn => callCcNn cc nn | .pushRp2 rp => pushRp2 rp | .callNn nn => callNn nn | .rstP t => rstP t
  | .rlcR r => rlcR r | .rrcR r => rrcR r | .rlR r => rlR r | .rrR r => rrR r | .slaR r => slaR r | .sraR r => sraR r
  | .sllR r => sllR r | .srlR r => srlR r | .bitBR bit r => bitBR bit r | .bitBAtHl bit => bitBAtHl bit
  | .resBR bit r => resBR bit r | .resBAtHl bit => resBAtHl bit | .setBR bit r => setBR bit r | .setBAtHl bit => setBAtHl bit
  | .inRAtC r => inRAtC r | .outAtCR r => outAtCR r | .sbcHlRp rp => sbcHlRp rp | .adcHlRp rp => adcHlRp rp
  | .ldAtNnRp nn rp => ldAtNnRp nn rp | .ldAtNnHlEd nn => ldAtNnHlEd nn | .ldRpAtNn rp nn => ldRpAtNn rp nn
  | .ldHlAtNnEd nn => ldHlAtNnEd nn | .negMirror y => negMirror y | .retnMirror y => retnMirror y | .im01 y => im01 y
  | .nopEd7 y => nopEd7 y | .nopEd op => nopEd op | .addIxRp rp => addIxRp rp | .ldIxNn nn => ldIxNn nn
  | .ldAtNnIx nn => ldAtNnIx nn | .ldIxAtNn nn => ldIxAtNn nn | .incIxHalf half => incIxHalf half
  | .decIxHalf half => decIxHalf half | .ldIxHalfN half n => ldIxHalfN half n | .incAtIxd d => incAtIxd d
  | .decAtIxd d => decAtIxd d | .ldAtIxdN d n => ldAtIxdN d n | .ldRAtIxd r d => ldRAtIxd r d
  | .ldAtIxdS d src => ldAtIxdS d src | .ldRSIxHalf r src => ldRSIxHalf r src | .addAIxHalf half => addAIxHalf half
  | .addAAtIxd d => addAAtIxd d | .adcAIxHalf half => adcAIxHalf half | .adcAAtIxd d => adcAAtIxd d
  | .subIxHalf half => subIxHalf half | .subAtIxd d => subAtIxd d | .sbcAIxHalf half => sbcAIxHalf half
  | .sbcAAtIxd d => sbcAAtIxd d | .andIxHalf half => andIxHalf half | .andAtIxd d => andAtIxd d
  | .xorIxHalf half => xorIxHalf half | .xorAtIxd d => xorAtIxd d | .orIxHalf half => orIxHalf half | .orAtIxd d => orAtIxd d
  | .cpIxHalf half => cpIxHalf half | .cpAtIxd d => cpAtIxd d | .ignoredDd next => ignoredDd next
  | .ddUnprefixed inner => ddUnprefixed inner | .addIyRp rp => addIyRp rp | .ldIyNn nn => ldIyNn nn
  | .ldAtNnIy nn => ldAtNnIy nn | .ldIyAtNn nn => ldIyAtNn nn | .incIyHalf half => incIyHalf half
  | .decIyHalf half => decIyHalf half | .ldIyHalfN half n => ldIyHalfN half n | .incAtIyd d => incAtIyd d
  | .decAtIyd d => decAtIyd d | .ldAtIydN d n => ldAtIydN d n | .ldRAtIyd r d => ldRAtIyd r d
  | .ldAtIydS d src => ldAtIydS d src | .ldRSIyHalf r src => ldRSIyHalf r src | .addAIyHalf half => addAIyHalf half
  | .addAAtIyd d => addAAtIyd d | .adcAIyHalf half => adcAIyHalf half | .adcAAtIyd d => adcAAtIyd d
  | .subIyHalf half => subIyHalf half | .subAtIyd d => subAtIyd d | .sbcAIyHalf half => sbcAIyHalf half
  | .sbcAAtIyd d => sbcAAtIyd d | .andIyHalf half => andIyHalf half | .andAtIyd d => andAtIyd d
  | .xorIyHalf half => xorIyHalf half | .xorAtIyd d => xorAtIyd d | .orIyHalf half => orIyHalf half | .orAtIyd d => orAtIyd d
  | .cpIyHalf half => cpIyHalf half | .cpAtIyd d => cpAtIyd d | .ignoredFd next => ignoredFd next
  | .fdUnprefixed inner => fdUnprefixed inner | .rlcAtIxd d => rlcAtIxd d | .ldRRlcAtIxd d r => ldRRlcAtIxd d r
  | .rrcAtIxd d => rrcAtIxd d | .ldRRrcAtIxd d r => ldRRrcAtIxd d r | .rlAtIxd d => rlAtIxd d
  | .ldRRlAtIxd d r => ldRRlAtIxd d r | .rrAtIxd d => rrAtIxd d | .ldRRrAtIxd d r => ldRRrAtIxd d r
  | .slaAtIxd d => slaAtIxd d | .ldRSlaAtIxd d r => ldRSlaAtIxd d r | .sraAtIxd d => sraAtIxd d
  | .ldRSraAtIxd d r => ldRSraAtIxd d r | .sllAtIxd d => sllAtIxd d | .ldRSllAtIxd d r => ldRSllAtIxd d r
  | .srlAtIxd d => srlAtIxd d | .ldRSrlAtIxd d r => ldRSrlAtIxd d r | .bitBAtIxd bit d => bitBAtIxd bit d
  | .bitBAtIxdMirror bit d z => bitBAtIxdMirror bit d z | .resBAtIxd bit d => resBAtIxd bit d
  | .ldRResBAtIxd bit d r => ldRResBAtIxd bit d r | .setBAtIxd bit d => setBAtIxd bit d
  | .ldRSetBAtIxd bit d r => ldRSetBAtIxd bit d r | .rlcAtIyd d => rlcAtIyd d | .ldRRlcAtIyd d r => ldRRlcAtIyd d r
  | .rrcAtIyd d => rrcAtIyd d | .ldRRrcAtIyd d r => ldRRrcAtIyd d r | .rlAtIyd d => rlAtIyd d
  | .ldRRlAtIyd d r => ldRRlAtIyd d r | .rrAtIyd d => rrAtIyd d | .ldRRrAtIyd d r => ldRRrAtIyd d r
  | .slaAtIyd d => slaAtIyd d | .ldRSlaAtIyd d r => ldRSlaAtIyd d r | .sraAtIyd d => sraAtIyd d
  | .ldRSraAtIyd d r => ldRSraAtIyd d r | .sllAtIyd d => sllAtIyd d | .ldRSllAtIyd d r => ldRSllAtIyd d r
  | .srlAtIyd d => srlAtIyd d | .ldRSrlAtIyd d r => ldRSrlAtIyd d r | .bitBAtIyd bit d => bitBAtIyd bit d
  | .bitBAtIydMirror bit d z => bitBAtIydMirror bit d z | .resBAtIyd bit d => resBAtIyd bit d
  | .ldRResBAtIyd bit d r => ldRResBAtIyd bit d r | .setBAtIyd bit d => setBAtIyd bit d
  | .ldRSetBAtIyd bit d r => ldRSetBAtIyd bit d r | .nop => nop | .ldAtBcA => ldAtBcA | .ldAtDeA => ldAtDeA
  | .ldAAtBc => ldAAtBc | .ldAAtDe => ldAAtDe | .incAtHl => incAtHl | .decAtHl => decAtHl | .rlca => rlca | .rrca => rrca
  | .rla => rla | .rra => rra | .daa => daa | .cpl => cpl | .scf => scf | .ccf => ccf | .exAfAf => exAfAf | .ret => ret
  | .exx => exx | .jpHl => jpHl | .ldSpHl => ldSpHl | .exDeHl => exDeHl | .di => di | .ei => ei | .halt => halt
  | .addAAtHl => addAAtHl | .adcAAtHl => adcAAtHl | .subAtHl => subAtHl | .sbcAAtHl => sbcAAtHl | .andAtHl => andAtHl
  | .xorAtHl => xorAtHl | .orAtHl => orAtHl | .cpAtHl => cpAtHl | .exAtSpHl => exAtSpHl | .prefixCb => prefixCb
  | .prefixEd => prefixEd | .prefixDd => prefixDd | .prefixFd => prefixFd | .rlcAtHl => rlcAtHl | .rrcAtHl => rrcAtHl
  | .rlAtHl => rlAtHl | .rrAtHl => rrAtHl | .slaAtHl => slaAtHl | .sraAtHl => sraAtHl | .sllAtHl => sllAtHl
  | .srlAtHl => srlAtHl | .inFAtC => inFAtC | .outAtC0 => outAtC0 | .neg => neg | .retn => retn | .reti => reti | .im0 => im0
  | .im0Mirror => im0Mirror | .im1 => im1 | .im1Mirror => im1Mirror | .im2 => im2 | .im2Mirror => im2Mirror | .ldIA => ldIA
  | .ldRA => ldRA | .ldAI => ldAI | .ldAR => ldAR | .rrd => rrd | .rld => rld | .ldi => ldi | .cpi => cpi | .ini => ini
  | .outi => outi | .ldd => ldd | .cpd => cpd | .ind => ind | .outd => outd | .ldir => ldir | .cpir => cpir | .inir => inir
  | .otir => otir | .lddr => lddr | .cpdr => cpdr | .indr => indr | .otdr => otdr | .incIx => incIx | .decIx => decIx
  | .popIx => popIx | .exAtSpIx => exAtSpIx | .pushIx => pushIx | .jpIx => jpIx | .ldSpIx => ldSpIx
  | .prefixDdCb => prefixDdCb | .incIy => incIy | .decIy => decIy | .popIy => popIy | .exAtSpIy => exAtSpIy
  | .pushIy => pushIy | .jpIy => jpIy | .ldSpIy => ldSpIy | .prefixFdCb => prefixFdCb

end Sys2Proof.Laws.RoundTrip

namespace Sys2Proof

open Machine (xyByte)

/-- Settles O1: each constructor has its own round trip. -/
theorem decodeOfEncodeIsTheInstruction : Obligations.DecodeOfEncodeIsTheInstruction :=
  Laws.RoundTrip.decode_encode

/-! ## The opcode at the head of a list of bytes -/

/-- The bytes that identify an encoding (R326), those of them a step consumes (all but the byte an ignored prefix looks at, R324), and
how many operand bytes follow (R312). -/
inductive Opcode : List Byte → List Byte → Nat → Prop where
  | base {op : Byte} (hop : IsPlainByte op) : Opcode [op] [op] (baseOperands op)
  | cb (op : Byte) : Opcode [0xCB#8, op] [0xCB#8, op] 0
  | ed (op : Byte) : Opcode [0xED#8, op] [0xED#8, op] (edOperands op)
  | ignored (x : XY) {op : Byte} (hchain : (ChainByte.ofByte op).isSome = true) : Opcode [xyByte x, op] [xyByte x] 0
  | xy (x : XY) {op : Byte} (hchain : ChainByte.ofByte op = none) (hcb : op ≠ 0xCB#8) :
      Opcode [xyByte x, op] [xyByte x, op] (xyOperands op)
  | xyCb (x : XY) (d op : Byte) : Opcode [xyByte x, 0xCB#8, d, op] [xyByte x, 0xCB#8, d, op] 0

/-- The bytes that do not yet identify an encoding: none, a prefix (R312 format P), or a DD CB or FD CB with its displacement. -/
inductive Unfinished : List Byte → Prop where
  | nil : Unfinished []
  | cb : Unfinished [0xCB#8]
  | ed : Unfinished [0xED#8]
  | xy (x : XY) : Unfinished [xyByte x]
  | xyCb (x : XY) : Unfinished [xyByte x, 0xCB#8]
  | xyCbDisp (x : XY) (d : Byte) : Unfinished [xyByte x, 0xCB#8, d]

theorem firstByte_cases (b : Byte) : b = 0xCB#8 ∨ b = 0xED#8 ∨ (∃ x, b = xyByte x) ∨ IsPlainByte b := by
  by_cases hcb : b = 0xCB#8
  · exact .inl hcb
  by_cases hed : b = 0xED#8
  · exact .inr (.inl hed)
  by_cases hdd : b = 0xDD#8
  · exact .inr (.inr (.inl ⟨.ix, hdd⟩))
  by_cases hfd : b = 0xFD#8
  · exact .inr (.inr (.inl ⟨.iy, hfd⟩))
  exact .inr (.inr (.inr ⟨hcb, hed, hdd, hfd⟩))

/-- The second byte after a DD or FD (R302). -/
theorem secondByte_cases (b : Byte) :
    (ChainByte.ofByte b).isSome = true ∨ b = 0xCB#8 ∨ ChainByte.ofByte b = none ∧ b ≠ 0xCB#8 := by
  by_cases hcb : b = 0xCB#8
  · exact .inr (.inl hcb)
  cases hchain : ChainByte.ofByte b with
  | some next => exact .inl rfl
  | none => exact .inr (.inr ⟨rfl, hcb⟩)

theorem unfinished_or_opcode (bytes : List Byte) :
    Unfinished bytes ∨ ∃ ident used n rest, Opcode ident used n ∧ bytes = ident ++ rest := by
  rcases bytes with _ | ⟨b0, rest⟩
  · exact .inl .nil
  rcases firstByte_cases b0 with rfl | rfl | ⟨x, rfl⟩ | hplain
  · rcases rest with _ | ⟨op, rest⟩
    · exact .inl .cb
    · exact .inr ⟨_, _, _, rest, .cb op, rfl⟩
  · rcases rest with _ | ⟨op, rest⟩
    · exact .inl .ed
    · exact .inr ⟨_, _, _, rest, .ed op, rfl⟩
  · rcases rest with _ | ⟨b1, rest⟩
    · exact .inl (.xy x)
    rcases secondByte_cases b1 with hchain | rfl | ⟨hchain, hcb⟩
    · exact .inr ⟨_, _, _, rest, .ignored x hchain, rfl⟩
    · rcases rest with _ | ⟨d, _ | ⟨op, rest⟩⟩
      · exact .inl (.xyCb x)
      · exact .inl (.xyCbDisp x d)
      · exact .inr ⟨_, _, _, rest, .xyCb x d op, rfl⟩
    · exact .inr ⟨_, _, _, rest, .xy x hchain hcb, rfl⟩
  · exact .inr ⟨_, _, _, rest, .base hplain, rfl⟩

theorem Answers.mono {P Q : List Byte → Instr → Prop} {len n : Nat} {bs : List Byte} {d : Decoded}
    (h : Answers P len n bs d) (hPQ : ∀ args i, P args i → Q args i) : Answers Q len n bs d :=
  ⟨h.short, fun hle => (h.complete hle).imp fun i hi => ⟨hPQ _ i hi.1, hi.2⟩⟩

theorem decode_base {op : Byte} (hop : IsPlainByte op) (bs : List Byte) : decode (op :: bs) = decodeBase op bs := by
  obtain ⟨hcb, hed, hdd, hfd⟩ := hop
  simp only [decode, if_neg hcb, if_neg hed, if_neg hdd, if_neg hfd]

/-- A DD or FD before a chain byte (R324). -/
theorem answers_ignored (x : XY) {op : Byte} (hchain : (ChainByte.ofByte op).isSome = true) (bs : List Byte) :
    Answers (fun args i => IsRow (xyByte x :: op :: args) (args.length + 1) i) 1 0 bs (decodeXy x (op :: bs)) := by
  have hbyte : op = 0xDD#8 ∨ op = 0xED#8 ∨ op = 0xFD#8 := by
    by_contra hne
    simp only [not_or] at hne
    obtain ⟨hdd, hed, hfd⟩ := hne
    simp [ChainByte.ofByte, hdd, hed, hfd] at hchain
  rcases hbyte with rfl | rfl | rfl <;> cases x <;> exact answers_plain ⟨rfl, rfl, rfl, rfl⟩

/-- The decoder's answer to an opcode and what follows it. -/
theorem Opcode.answers {ident used : List Byte} {n : Nat} (h : Opcode ident used n) (bs : List Byte) :
    Answers (fun args i => IsRow (ident ++ args) (args.length + used.length) i) (n + used.length) n bs (decode (ident ++ bs)) := by
  cases h with
  | @base op hop =>
    rw [List.singleton_append, decode_base hop]
    exact (answers_decodeBase op hop bs).mono fun _ _ => IsBaseCell.row
  | cb op => exact answers_plain (isRow_decodeCb op)
  | ed op => exact answers_decodeEd op bs
  | @ignored x op hchain =>
    rw [List.cons_append, decode_xyByte]
    exact answers_ignored x hchain bs
  | @xy x op hchain hcb =>
    rw [List.cons_append, decode_xyByte]
    exact answers_decodeXy x hchain hcb bs
  | xyCb x d op =>
    rw [List.cons_append, decode_xyByte]
    exact answers_plain (isRow_decodeXyCb x d op)

/-- A prefix alone is a prefix row, with the prefix as its encoding; a displacement without its opcode is nothing yet (R312). -/
theorem Unfinished.decode_eq_ok {bytes : List Byte} (h : Unfinished bytes) {i : Instr} {len : Nat}
    (hd : decode bytes = .ok (i, len)) :
    i.isPrefixRow = true ∧ i.wf = true ∧ encode i = bytes ∧ len = i.length ∧ 1 ≤ len ∧ len ≤ 4 := by
  cases h with
  | nil => cases hd
  | cb | ed =>
    cases hd
    exact ⟨rfl, rfl, rfl, rfl, by decide, by decide⟩
  | xy x | xyCb x =>
    cases x <;> cases hd <;> exact ⟨rfl, rfl, rfl, rfl, by decide, by decide⟩
  | xyCbDisp x d => cases x <;> cases hd

/-! ## Lengths -/

theorem baseOperands_le (op : Byte) : baseOperands op ≤ 2 := by
  unfold baseOperands
  split <;> (repeat' split) <;> decide

theorem edOperands_le (op : Byte) : edOperands op ≤ 2 := by
  unfold edOperands
  split <;> decide

theorem xyOperands_le (op : Byte) : xyOperands op ≤ 2 := by
  unfold xyOperands
  iterate 5 (split; · decide)
  exact baseOperands_le op

/-- An instruction has 1 to 4 bytes (R307). -/
theorem Opcode.lengths {ident used : List Byte} {n : Nat} (h : Opcode ident used n) :
    1 ≤ used.length ∧ used.length ≤ ident.length ∧ ident.length + n ≤ 4 := by
  cases h with
  | @base op _ => exact ⟨le_rfl, le_rfl, (Nat.add_le_add_left (baseOperands_le op) 1).trans (by decide)⟩
  | ed op => exact ⟨Nat.succ_pos _, le_rfl, Nat.add_le_add_left (edOperands_le op) 2⟩
  | @xy x op _ _ => exact ⟨Nat.le_succ_of_le le_rfl, le_rfl, Nat.add_le_add_left (xyOperands_le op) 2⟩
  | cb | xyCb => exact ⟨Nat.succ_pos _, le_rfl, by simp⟩
  | ignored => exact ⟨le_rfl, by simp, by simp⟩

theorem Unfinished.length_le {bytes : List Byte} (h : Unfinished bytes) : bytes.length ≤ 3 := by
  cases h <;> simp

/-- What the decoder gives where an opcode and its operand bytes stand at the head of the list. -/
theorem Opcode.decode_eq_ok {ident used rest : List Byte} {n len : Nat} (h : Opcode ident used n) {i : Instr}
    (hd : decode (ident ++ rest) = .ok (i, len)) :
    n ≤ rest.length ∧ IsRow (ident ++ rest.take n) (n + used.length) i ∧ len = n + used.length := by
  rcases Nat.lt_or_ge rest.length n with hlt | hle
  · cases hd.symm.trans ((h.answers rest).short hlt)
  · obtain ⟨j, hj, hok⟩ := (h.answers rest).complete hle
    cases hd.symm.trans hok
    rw [List.length_take_of_le hle] at hj
    exact ⟨hle, hj, rfl⟩

/-- Settles O2: the list is a prefix alone, or an opcode with its operand bytes stands at its head. -/
theorem decodeReadsItsEncoding : Obligations.DecodeReadsItsEncoding := by
  intro bytes i len hd
  rcases unfinished_or_opcode bytes with h | ⟨ident, used, n, rest, h, rfl⟩
  · obtain ⟨-, hwf, hbytes, hlen⟩ := h.decode_eq_ok hd
    exact ⟨hwf, by rw [hbytes], hlen⟩
  · obtain ⟨-, hi, rfl⟩ := h.decode_eq_ok hd
    obtain ⟨hpos, hused, hle⟩ := h.lengths
    refine ⟨hi.wf, ?_, hi.length.symm, by omega, by omega⟩
    rw [hi.bytes, List.prefix_append_right_inj]
    exact List.take_prefix n rest

/-- Four bytes or more hold a whole instruction. -/
theorem decode_of_four {bytes : List Byte} (hlen : 4 ≤ bytes.length) :
    ∃ i len, decode bytes = .ok (i, len) ∧ i.isPrefixRow = false := by
  rcases unfinished_or_opcode bytes with h | ⟨ident, used, n, rest, h, rfl⟩
  · exact absurd (hlen.trans h.length_le) (by decide)
  · have hle : n ≤ rest.length := by
      have := h.lengths.2.2
      rw [List.length_append] at hlen
      omega
    obtain ⟨i, hi, hok⟩ := (h.answers rest).complete hle
    exact ⟨i, _, hok, hi.notPrefix⟩

/-- The encoding of an instruction that is no prefix alone: its opcode and its operand bytes. -/
structure Encodes (ident used args : List Byte) (i : Instr) : Prop where
  opcode : Opcode ident used args.length
  bytes : encode i = ident ++ args
  length : i.length = args.length + used.length

theorem exists_encodes {i : Instr} (hwf : i.wf = true) (hrow : i.isPrefixRow = false) :
    ∃ ident used args, Encodes ident used args i := by
  have hd := Laws.RoundTrip.decode_encode i hwf
  rcases unfinished_or_opcode (encode i) with h | ⟨ident, used, n, rest, h, hbytes⟩
  · exact absurd ((h.decode_eq_ok hd).1.symm.trans hrow) (by decide)
  · rw [hbytes] at hd
    obtain ⟨hle, hi, hlen⟩ := h.decode_eq_ok hd
    have htake := List.length_take_of_le hle
    exact ⟨ident, used, rest.take n, by rwa [htake], hi.bytes, by rw [htake, hlen]⟩

end Sys2Proof
end

section
/-! What a fetch does with the bytes at PC, said once: it goes on to the operand bytes of the opcode that stands there, or faults at the
first byte it cannot read (30_encoding.md R302 to R308, R326; 60_exceptions.md R901, R903, R907). -/

namespace Sys2Proof.Machine

/-! ## Bytes in memory -/

theorem bytesAt_nil (s : State) (a : Word) : BytesAt s a [] := fun _ h => absurd h (Nat.not_lt_zero _)

theorem bytesAt_cons (s : State) (a : Word) (b : Byte) (bytes : List Byte) :
    BytesAt s a (b :: bytes) ↔ Reads s a b ∧ BytesAt s (a + 1#16) bytes := by
  have hnext : ∀ k, a + BitVec.ofNat 16 (k + 1) = a + 1#16 + BitVec.ofNat 16 k := fun k => by
    rw [Nat.add_comm, BitVec.ofNat_add, BitVec.add_assoc]
  constructor
  · intro h
    refine ⟨by simpa using h 0 (Nat.succ_pos _), fun k hk => ?_⟩
    have := h (k + 1) (Nat.succ_lt_succ hk)
    rwa [hnext] at this
  · rintro ⟨hb, hrest⟩ (_ | k) hk
    · simpa using hb
    · rw [hnext]
      exact hrest k (Nat.lt_of_succ_lt_succ hk)

theorem bytesAt_append (s : State) (a : Word) (bytes more : List Byte) :
    BytesAt s a (bytes ++ more) ↔ BytesAt s a bytes ∧ BytesAt s (a + BitVec.ofNat 16 bytes.length) more := by
  induction bytes generalizing a with
  | nil => simpa using fun _ => bytesAt_nil s a
  | cons b rest ih =>
    have hnext : a + BitVec.ofNat 16 (rest.length + 1) = a + 1#16 + BitVec.ofNat 16 rest.length := by
      rw [Nat.add_comm, BitVec.ofNat_add, BitVec.add_assoc]
    rw [List.cons_append, bytesAt_cons, bytesAt_cons, ih, List.length_cons, hnext, and_assoc]

/-- Reading on from an address: so many bytes, or an unreadable one before that. -/
theorem bytesAt_or_error (s : State) (a : Word) (n : Nat) :
    (∃ bytes, bytes.length = n ∧ BytesAt s a bytes) ∨
      ∃ bytes err, bytes.length < n ∧ BytesAt s a bytes ∧ s.peek (a + BitVec.ofNat 16 bytes.length) = .error err := by
  induction n with
  | zero => exact .inl ⟨[], rfl, bytesAt_nil s a⟩
  | succ n ih =>
    rcases ih with ⟨bytes, rfl, hbytes⟩ | ⟨bytes, err, hlt, h⟩
    · cases hb : s.peek (a + BitVec.ofNat 16 bytes.length) with
      | error err => exact .inr ⟨bytes, err, Nat.lt_succ_self _, hbytes, hb⟩
      | ok b =>
        refine .inl ⟨bytes ++ [b], List.length_append, (bytesAt_append _ _ _ _).2 ⟨hbytes, ?_⟩⟩
        exact (bytesAt_cons _ _ _ _).2 ⟨hb, bytesAt_nil _ _⟩
    · exact .inr ⟨bytes, err, Nat.lt_succ_of_lt hlt, h⟩

/-! ## The state once some bytes are fetched -/

/-- The state once these bytes of an instruction, and no more, have been fetched at PC (R303, R304). -/
def State.fetching (s : State) (bytes : List Byte) : State :=
  { s with
    pc := s.pc + BitVec.ofNat 16 bytes.length
    r := refresh^[opcodeFetches bytes] s.r
    latch := (bytes.take (opcodeFetches bytes)).getLast?.getD s.latch }

theorem partlyFetched_eq (s : State) (bytes : List Byte) : partlyFetched s bytes = s.beginStep.fetching bytes := rfl

@[simp] theorem peek_fetching (s : State) (bytes : List Byte) (a : Word) : (s.fetching bytes).peek a = s.peek a := rfl

@[simp] theorem fetching_params (s : State) (bytes : List Byte) : (s.fetching bytes).params = s.params := rfl

@[simp] theorem fetching_pc (s : State) (bytes : List Byte) :
    (s.fetching bytes).pc = s.pc + BitVec.ofNat 16 bytes.length := rfl

theorem fetching_nil (s : State) : s.fetching [] = s := by
  simp [State.fetching, opcodeFetches]

theorem fetching_singleton (s : State) (b : Byte) : s.fetching [b] = s.afterOpcode b := rfl

/-- The bytes that an opcode byte follows (R302). -/
def IsPrefixByte (b : Byte) : Prop := b = 0xCB#8 ∨ b = 0xED#8 ∨ b = 0xDD#8 ∨ b = 0xFD#8

theorem isPrefixByte_xyByte (x : XY) : IsPrefixByte (xyByte x) := by
  cases x
  · exact .inr (.inr (.inl rfl))
  · exact .inr (.inr (.inr rfl))

theorem not_isPrefixByte {op : Byte} (h : IsPlainByte op) : ¬IsPrefixByte op := by
  obtain ⟨hcb, hed, hdd, hfd⟩ := h
  rintro (rfl | rfl | rfl | rfl)
  · exact hcb rfl
  · exact hed rfl
  · exact hdd rfl
  · exact hfd rfl

theorem opcodeFetches_prefix {b0 : Byte} (h : IsPrefixByte b0) (b1 : Byte) (rest : List Byte) :
    opcodeFetches (b0 :: b1 :: rest) = 2 := if_pos h

theorem opcodeFetches_plain {op : Byte} (h : IsPlainByte op) (args : List Byte) : opcodeFetches (op :: args) = 1 := by
  rcases args with _ | ⟨b1, rest⟩
  · rfl
  · exact if_neg (not_isPrefixByte h)

theorem fetching_prefix (s : State) {b0 : Byte} (h : IsPrefixByte b0) (b1 : Byte) :
    s.fetching [b0, b1] = (s.afterOpcode b0).afterOpcode b1 := by
  simp only [State.fetching, State.afterOpcode, opcodeFetches_prefix h, List.length_cons, List.length_nil, BitVec.add_assoc]
  rfl

/-- Operand bytes move PC only (R304). -/
theorem fetching_append (s : State) (bytes args : List Byte) (h : opcodeFetches (bytes ++ args) = opcodeFetches bytes)
    (hle : opcodeFetches bytes ≤ bytes.length) : (s.fetching bytes).skip args.length = s.fetching (bytes ++ args) := by
  simp only [State.fetching, State.skip, h, List.take_append_of_le_length hle, List.length_append, BitVec.ofNat_add,
    BitVec.add_assoc]

/-- The displacement and the final opcode of a DD CB or FD CB instruction come by no opcode fetch (R302). -/
theorem fetching_xyCb (s : State) (x : XY) (more : List Byte) :
    s.fetching (xyByte x :: 0xCB#8 :: more) = ((s.afterOpcode (xyByte x)).afterOpcode 0xCB#8).skip more.length := by
  have hcount := opcodeFetches_prefix (isPrefixByte_xyByte x) 0xCB#8
  rw [← fetching_prefix s (isPrefixByte_xyByte x)]
  exact (fetching_append s [xyByte x, 0xCB#8] more ((hcount _).trans (hcount _).symm) (hcount _).le).symm

/-! ## The tails of the prefix state machine -/

theorem fetchCb_ok {s : State} {op : Byte} (h : Reads s s.pc op) :
    fetchCb s = fetchOperands [0xCB#8, op] 0 (s.afterOpcode op) := by
  simp only [fetchCb, fetchOpcode_ok s op h, bind, Except.bind]

theorem fetchEd_ok {s : State} {op : Byte} (h : Reads s s.pc op) :
    fetchEd s = fetchOperands [0xED#8, op] (edOperands op) (s.afterOpcode op) := by
  simp only [fetchEd, fetchOpcode_ok s op h, bind, Except.bind]

theorem fetchXy_ignored {s : State} (x : XY) {op : Byte} (h : Reads s s.pc op)
    (hchain : (ChainByte.ofByte op).isSome = true) : fetchXy x s = fetchOperands [xyByte x, op] 0 s := by
  simp only [fetchXy, h, if_pos hchain]

theorem fetchXy_ok {s : State} (x : XY) {op : Byte} (h : Reads s s.pc op) (hchain : ChainByte.ofByte op = none)
    (hcb : op ≠ 0xCB#8) : fetchXy x s = fetchOperands [xyByte x, op] (xyOperands op) (s.afterOpcode op) := by
  simp [fetchXy, h, hchain, fetchOpcode_ok s op h, bind, Except.bind, hcb]

theorem fetchXy_cb {s : State} (x : XY) (h : Reads s s.pc 0xCB#8) : fetchXy x s = fetchXyCb x (s.afterOpcode 0xCB#8) := by
  have hchain : ChainByte.ofByte 0xCB#8 = none := rfl
  simp [fetchXy, h, hchain, fetchOpcode_ok s _ h, bind, Except.bind]

theorem fetchXyCb_ok {s : State} (x : XY) {d op : Byte} (hd : Reads s s.pc d) (hop : Reads s (s.pc + 1#16) op) :
    fetchXyCb x s = fetchOperands [xyByte x, 0xCB#8, d, op] 0 (s.skip 2) := by
  have hop' : (s.skip 1).peek (s.skip 1).pc = .ok op := hop
  simp only [fetchXyCb, fetchByte_ok s d hd, fetchByte_ok _ op hop', bind, Except.bind, skip_skip]

/-! The same tails where the next byte cannot be read. -/

theorem fetchCb_error {s : State} {e : AccessError} (h : s.peek s.pc = .error e) : fetchCb s = .error (e.toFault s) := by
  simp only [fetchCb, fetchOpcode_error s e h, bind, Except.bind]

theorem fetchEd_error {s : State} {e : AccessError} (h : s.peek s.pc = .error e) : fetchEd s = .error (e.toFault s) := by
  simp only [fetchEd, fetchOpcode_error s e h, bind, Except.bind]

theorem fetchXy_error {s : State} (x : XY) {e : AccessError} (h : s.peek s.pc = .error e) :
    fetchXy x s = .error (e.toFault s) := by
  simp only [fetchXy, h]

theorem fetchXyCb_error_disp {s : State} (x : XY) {e : AccessError} (h : s.peek s.pc = .error e) :
    fetchXyCb x s = .error (e.toFault s) := by
  simp only [fetchXyCb, fetchByte_error s e h, bind, Except.bind]

theorem fetchXyCb_error_opcode {s : State} (x : XY) {d : Byte} {e : AccessError} (hd : Reads s s.pc d)
    (h : s.peek (s.pc + 1#16) = .error e) : fetchXyCb x s = .error (e.toFault (s.skip 1)) := by
  have h' : (s.skip 1).peek (s.skip 1).pc = .error e := h
  simp only [fetchXyCb, fetchByte_ok s d hd, fetchByte_error _ e h', bind, Except.bind]

/-! ## The whole fetch -/

theorem fetchInstr_error {s : State} {e : AccessError} (h : s.peek s.pc = .error e) :
    fetchInstr s = .error (e.toFault s) := by
  simp only [fetchInstr, fetchOpcode_error s e h, bind, Except.bind]

theorem fetchInstr_cb {s : State} (h : Reads s s.pc 0xCB#8) : fetchInstr s = fetchCb (s.afterOpcode 0xCB#8) := by
  simp only [fetchInstr, fetchOpcode_ok s _ h, bind, Except.bind, if_pos]

theorem fetchInstr_ed {s : State} (h : Reads s s.pc 0xED#8) : fetchInstr s = fetchEd (s.afterOpcode 0xED#8) := by
  simp [fetchInstr, fetchOpcode_ok s _ h, bind, Except.bind]

theorem fetchInstr_xy {s : State} {x : XY} (h : Reads s s.pc (xyByte x)) :
    fetchInstr s = fetchXy x (s.afterOpcode (xyByte x)) := by
  cases x <;> simp [fetchInstr, fetchOpcode_ok s _ h, bind, Except.bind, xyByte, XY.pick]

theorem fetchInstr_base {s : State} {op : Byte} (h : Reads s s.pc op) (hop : IsPlainByte op) :
    fetchInstr s = fetchOperands [op] (baseOperands op) (s.afterOpcode op) := by
  obtain ⟨hcb, hed, hdd, hfd⟩ := hop
  simp only [fetchInstr, fetchOpcode_ok s op h, bind, Except.bind, if_neg hcb, if_neg hed, if_neg hdd, if_neg hfd]

/-- Where an opcode stands at PC, what is left of the fetch is its operand bytes. -/
theorem fetchInstr_opcode {ident used : List Byte} {n : Nat} (h : Opcode ident used n) {s : State} (hbytes : BytesAt s s.pc ident) :
    fetchInstr s = fetchOperands ident n (s.fetching used) := by
  cases h with
  | base hop =>
    obtain ⟨h0, -⟩ := (bytesAt_cons _ _ _ _).1 hbytes
    exact fetchInstr_base h0 hop
  | cb op =>
    obtain ⟨h0, hrest⟩ := (bytesAt_cons _ _ _ _).1 hbytes
    obtain ⟨h1, -⟩ := (bytesAt_cons _ _ _ _).1 hrest
    rw [fetchInstr_cb h0, fetchCb_ok (s := s.afterOpcode 0xCB#8) h1, fetching_prefix _ (.inl rfl)]
  | ed op =>
    obtain ⟨h0, hrest⟩ := (bytesAt_cons _ _ _ _).1 hbytes
    obtain ⟨h1, -⟩ := (bytesAt_cons _ _ _ _).1 hrest
    rw [fetchInstr_ed h0, fetchEd_ok (s := s.afterOpcode 0xED#8) h1, fetching_prefix _ (.inr (.inl rfl))]
  | ignored x hchain =>
    obtain ⟨h0, hrest⟩ := (bytesAt_cons _ _ _ _).1 hbytes
    obtain ⟨h1, -⟩ := (bytesAt_cons _ _ _ _).1 hrest
    rw [fetchInstr_xy h0, fetchXy_ignored (s := s.afterOpcode (xyByte x)) x h1 hchain, fetching_singleton]
  | xy x hchain hcb =>
    obtain ⟨h0, hrest⟩ := (bytesAt_cons _ _ _ _).1 hbytes
    obtain ⟨h1, -⟩ := (bytesAt_cons _ _ _ _).1 hrest
    rw [fetchInstr_xy h0, fetchXy_ok (s := s.afterOpcode (xyByte x)) x h1 hchain hcb, fetching_prefix _ (isPrefixByte_xyByte x)]
  | xyCb x d op =>
    obtain ⟨h0, hrest⟩ := (bytesAt_cons _ _ _ _).1 hbytes
    obtain ⟨h1, hrest⟩ := (bytesAt_cons _ _ _ _).1 hrest
    obtain ⟨h2, hrest⟩ := (bytesAt_cons _ _ _ _).1 hrest
    obtain ⟨h3, -⟩ := (bytesAt_cons _ _ _ _).1 hrest
    rw [fetchInstr_xy h0, fetchXy_cb (s := s.afterOpcode (xyByte x)) x h1,
      fetchXyCb_ok (s := (s.afterOpcode (xyByte x)).afterOpcode 0xCB#8) x h2 h3,
      fetching_xyCb s x [d, op]]
    rfl

/-- Where the bytes at PC end before they identify an encoding, the fetch faults at the byte it cannot read. -/
theorem fetchInstr_unfinished {bytes : List Byte} (h : Unfinished bytes) {s : State} {e : AccessError}
    (hbytes : BytesAt s s.pc bytes) (he : s.peek (s.pc + BitVec.ofNat 16 bytes.length) = .error e) :
    fetchInstr s = .error (e.toFault (s.fetching bytes)) := by
  cases h with
  | nil =>
    rw [fetching_nil]
    exact fetchInstr_error (by simpa using he)
  | cb =>
    obtain ⟨h0, -⟩ := (bytesAt_cons _ _ _ _).1 hbytes
    rw [fetchInstr_cb h0, fetching_singleton]
    exact fetchCb_error he
  | ed =>
    obtain ⟨h0, -⟩ := (bytesAt_cons _ _ _ _).1 hbytes
    rw [fetchInstr_ed h0, fetching_singleton]
    exact fetchEd_error he
  | xy x =>
    obtain ⟨h0, -⟩ := (bytesAt_cons _ _ _ _).1 hbytes
    rw [fetchInstr_xy h0, fetching_singleton]
    exact fetchXy_error x he
  | xyCb x =>
    obtain ⟨h0, hrest⟩ := (bytesAt_cons _ _ _ _).1 hbytes
    obtain ⟨h1, -⟩ := (bytesAt_cons _ _ _ _).1 hrest
    have hpc : ((s.afterOpcode (xyByte x)).afterOpcode 0xCB#8).pc = s.pc + 2#16 := add_one_add_one s.pc
    rw [fetchInstr_xy h0, fetchXy_cb (s := s.afterOpcode (xyByte x)) x h1, fetching_prefix s (isPrefixByte_xyByte x)]
    exact fetchXyCb_error_disp x (by rw [hpc]; exact he)
  | xyCbDisp x d =>
    obtain ⟨h0, hrest⟩ := (bytesAt_cons _ _ _ _).1 hbytes
    obtain ⟨h1, hrest⟩ := (bytesAt_cons _ _ _ _).1 hrest
    obtain ⟨h2, -⟩ := (bytesAt_cons _ _ _ _).1 hrest
    have hpc : ((s.afterOpcode (xyByte x)).afterOpcode 0xCB#8).pc + 1#16 = s.pc + 3#16 := by
      rw [afterOpcode_pc, afterOpcode_pc, add_one_add_one, BitVec.add_assoc]
      rfl
    rw [fetchInstr_xy h0, fetchXy_cb (s := s.afterOpcode (xyByte x)) x h1, fetching_xyCb s x [d]]
    exact fetchXyCb_error_opcode x h2 (by rw [hpc]; exact he)

/-- What stands at PC: the beginning of an encoding up to an unreadable byte, or an opcode. -/
theorem unfinished_or_opcode_at (s : State) :
    (∃ bytes e, Unfinished bytes ∧ BytesAt s s.pc bytes ∧ s.peek (s.pc + BitVec.ofNat 16 bytes.length) = .error e) ∨
      ∃ ident used n, Opcode ident used n ∧ BytesAt s s.pc ident := by
  have split : ∀ bytes, BytesAt s s.pc bytes → Unfinished bytes ∨ ∃ ident used n, Opcode ident used n ∧ BytesAt s s.pc ident := by
    intro bytes hbytes
    rcases unfinished_or_opcode bytes with h | ⟨ident, used, n, rest, h, rfl⟩
    · exact .inl h
    · exact .inr ⟨ident, used, n, h, ((bytesAt_append _ _ _ _).1 hbytes).1⟩
  rcases bytesAt_or_error s s.pc 4 with ⟨bytes, hlen, hbytes⟩ | ⟨bytes, e, -, hbytes, he⟩
  · rcases split bytes hbytes with h | h
    · exact absurd h.length_le (by omega)
    · exact .inr h
  · exact (split bytes hbytes).imp (fun h => ⟨bytes, e, h, hbytes, he⟩) fun h => h

/-! ## The operand bytes -/

theorem checkPolicy_ok {bytes : List Byte} {s : State}
    (h : s.params.undocPolicy = .execute ∨ documented bytes = true) : checkPolicy bytes s = .ok () := by
  refine if_neg fun ⟨hfault, hdoc⟩ => ?_
  rcases h with h | h
  · exact absurd (h.symm.trans hfault) (by decide)
  · exact absurd (h.symm.trans hdoc) (by decide)

/-- The policy lets an encoding run, or it is `fault` and the encoding is undocumented (R326). -/
theorem policy_cases (p : UndocPolicy) (bytes : List Byte) :
    (p = .execute ∨ documented bytes = true) ∨ p = .fault ∧ documented bytes = false := by
  cases p with
  | execute => exact .inl (.inl rfl)
  | fault =>
    cases h : documented bytes with
    | true => exact .inl (.inr rfl)
    | false => exact .inr ⟨rfl, rfl⟩

theorem fetchOperands_undocumented {bytes : List Byte} {s : State} (n : Nat) (hp : s.params.undocPolicy = .fault)
    (hdoc : documented bytes = false) : fetchOperands bytes n s = .error (.unknownOpcode bytes s) := by
  simp only [fetchOperands, checkPolicy, if_pos (And.intro hp hdoc), bind, Except.bind]

theorem fetchBytes_error {bytes : List Byte} {n : Nat} {s : State} {e : AccessError} (hlt : bytes.length < n)
    (hbytes : BytesAt s s.pc bytes) (he : s.peek (s.pc + BitVec.ofNat 16 bytes.length) = .error e) :
    fetchBytes n s = .error (e.toFault (s.skip bytes.length)) := by
  induction bytes generalizing n s with
  | nil =>
    obtain ⟨m, rfl⟩ := Nat.exists_eq_add_one.2 hlt
    have he' : s.peek s.pc = .error e := by simpa using he
    simp only [fetchBytes, fetchByte_error s e he', bind, Except.bind, List.length_nil, skip_zero]
  | cons b rest ih =>
    obtain ⟨m, rfl⟩ : ∃ m, n = m + 1 := Nat.exists_eq_add_one.2 (Nat.zero_lt_of_lt hlt)
    obtain ⟨hb, hrest⟩ := (bytesAt_cons _ _ _ _).1 hbytes
    have hpc : s.pc + BitVec.ofNat 16 (rest.length + 1) = s.pc + 1#16 + BitVec.ofNat 16 rest.length := by
      rw [Nat.add_comm, BitVec.ofNat_add, BitVec.add_assoc]
    rw [List.length_cons, hpc] at he
    have hnext := ih (n := m) (s := s.skip 1) (Nat.lt_of_succ_lt_succ hlt) hrest he
    simp only [fetchBytes, fetchByte_ok s b hb, bind, Except.bind, hnext, skip_skip, List.length_cons, Nat.add_comm 1]

theorem fetchOperands_error {bytes args : List Byte} {n : Nat} {s : State} {e : AccessError}
    (hp : s.params.undocPolicy = .execute ∨ documented bytes = true) (hlt : args.length < n) (hargs : BytesAt s s.pc args)
    (he : s.peek (s.pc + BitVec.ofNat 16 args.length) = .error e) :
    fetchOperands bytes n s = .error (e.toFault (s.skip args.length)) := by
  simp only [fetchOperands, checkPolicy_ok hp, bind, Except.bind, fetchBytes_error hlt hargs he]

theorem fetchOperands_ok {bytes args : List Byte} {s : State} {i : Instr} {len : Nat}
    (hp : s.params.undocPolicy = .execute ∨ documented bytes = true) (hargs : BytesAt s s.pc args)
    (hd : decode (bytes ++ args) = .ok (i, len)) : fetchOperands bytes args.length s = .ok (i, s.skip args.length) := by
  simp only [fetchOperands, checkPolicy_ok hp, bind, Except.bind, fetchBytes_ok args s hargs, hd, pure, Except.pure]

end Sys2Proof.Machine

namespace Sys2Proof

open Machine

/-! ## What an opcode says of the instruction -/

theorem ne_cb_of_chain {b : Byte} (h : (ChainByte.ofByte b).isSome = true) : b ≠ 0xCB#8 := by
  rintro rfl
  exact absurd h (by decide)

theorem documented_xy (x : XY) {b : Byte} (hcb : b ≠ 0xCB#8) (rest : List Byte) :
    documented (xyByte x :: b :: rest) = xyDocumented b := by
  cases x <;> simp [documented, xyByte, XY.pick, hcb]

theorem head?_mem_prefixes (b : Byte) : some b ∈ [some 0xCB#8, some 0xED#8, some 0xDD#8, some 0xFD#8] ↔ IsPrefixByte b := by
  simp [IsPrefixByte]

theorem m1Cycles_prefix {i : Instr} {b : Byte} {rest : List Byte} (hb : IsPrefixByte b) (hbytes : encode i = b :: rest)
    (hlen : i.length ≠ 1) : i.m1Cycles = 2 := by
  rw [m1Cycles_eq, if_neg hlen, hbytes, List.head?_cons, if_pos ((head?_mem_prefixes b).2 hb)]

theorem m1Cycles_plain {i : Instr} {op : Byte} {rest : List Byte} (hop : IsPlainByte op) (hbytes : encode i = op :: rest) :
    i.m1Cycles = 1 := by
  rw [m1Cycles_eq, hbytes, List.head?_cons, if_neg (mt (head?_mem_prefixes op).1 (not_isPrefixByte hop)), ite_self]

section
variable {ident used : List Byte} {n : Nat} (h : Opcode ident used n)
include h

/-- Only an ignored prefix leaves an identifying byte unconsumed, and it has no operand bytes (R324). -/
theorem Opcode.used_eq (hn : 0 < n) : used = ident := by
  cases h with
  | ignored => exact absurd hn (lt_irrefl _)
  | _ => rfl

theorem Opcode.opcodeFetches_le : opcodeFetches used ≤ used.length := by
  cases h with
  | base => exact le_rfl
  | cb op => exact (opcodeFetches_prefix (.inl rfl) op []).le
  | ed op => exact (opcodeFetches_prefix (.inr (.inl rfl)) op []).le
  | ignored => exact le_rfl
  | @xy x op => exact (opcodeFetches_prefix (isPrefixByte_xyByte x) op []).le
  | xyCb x d op => exact (opcodeFetches_prefix (isPrefixByte_xyByte x) _ _).le.trans (by simp)

/-- Operand bytes are no opcode fetches (R304). -/
theorem Opcode.opcodeFetches_append {args : List Byte} (hargs : args.length ≤ n) :
    opcodeFetches (used ++ args) = opcodeFetches used := by
  cases h with
  | base hop => exact (opcodeFetches_plain hop _).trans (opcodeFetches_plain hop _).symm
  | ed op => exact (opcodeFetches_prefix (.inr (.inl rfl)) op _).trans (opcodeFetches_prefix (.inr (.inl rfl)) op _).symm
  | @xy x op =>
    exact (opcodeFetches_prefix (isPrefixByte_xyByte x) op _).trans (opcodeFetches_prefix (isPrefixByte_xyByte x) op _).symm
  | cb | ignored | xyCb => rw [List.length_eq_zero_iff.1 (Nat.le_zero.1 hargs), List.append_nil]

theorem Opcode.fetching_skip (s : State) {args : List Byte} (hargs : args.length ≤ n) :
    (s.fetching used).skip args.length = s.fetching (used ++ args) :=
  fetching_append s used args (h.opcodeFetches_append hargs) h.opcodeFetches_le

/-- The bytes that identify an encoding say whether it is documented (R326). -/
theorem Opcode.documented_append (args : List Byte) : documented (ident ++ args) = documented ident := by
  cases h with
  | base hop =>
    obtain ⟨hcb, hed, hdd, hfd⟩ := hop
    rcases args with _ | ⟨b1, rest⟩
    · rfl
    · simp [documented, hcb, hed, hdd, hfd]
  | cb | ed => rfl
  | ignored x hchain => exact (documented_xy x (ne_cb_of_chain hchain) _).trans (documented_xy x (ne_cb_of_chain hchain) _).symm
  | xy x _ hcb => exact (documented_xy x hcb _).trans (documented_xy x hcb _).symm
  | xyCb x => cases x <;> rfl

theorem Opcode.unfinished_take {k : Nat} (hk : k < ident.length) : Unfinished (ident.take k) := by
  rcases k with _ | _ | _ | _ | k
  · exact .nil
  · cases h with
    | base => exact absurd hk (lt_irrefl _)
    | cb => exact .cb
    | ed => exact .ed
    | ignored x | xy x | xyCb x => exact .xy x
  · cases h with
    | xyCb x => exact .xyCb x
    | _ => simp at hk
  · cases h with
    | xyCb x d => exact .xyCbDisp x d
    | _ => simp at hk
  · have := h.lengths.2.2
    omega

end

section
variable {ident used args : List Byte} {i : Instr} (h : Encodes ident used args i)
include h

theorem Encodes.documented_eq : i.documented = documented ident := by
  rw [Instr.documented, h.bytes, h.opcode.documented_append]

/-- The opcode fetches of the instruction (10_state.md R112). -/
theorem Encodes.m1Cycles : i.m1Cycles = opcodeFetches used := by
  obtain ⟨hop, hbytes, hlen⟩ := h
  generalize hn : args.length = n at hop
  cases hop with
  | base hop => exact (m1Cycles_plain hop hbytes).trans (opcodeFetches_plain hop []).symm
  | cb op => exact (m1Cycles_prefix (.inl rfl) hbytes (by simp [hlen])).trans (opcodeFetches_prefix (.inl rfl) op []).symm
  | ed op =>
    have hpre : IsPrefixByte 0xED#8 := .inr (.inl rfl)
    exact (m1Cycles_prefix hpre hbytes (by simp [hlen])).trans (opcodeFetches_prefix hpre op []).symm
  | ignored x =>
    rw [m1Cycles_eq, hlen, hn]
    rfl
  | @xy x op =>
    have hpre := isPrefixByte_xyByte x
    exact (m1Cycles_prefix hpre hbytes (by simp [hlen])).trans (opcodeFetches_prefix hpre op []).symm
  | xyCb x d op =>
    have hpre := isPrefixByte_xyByte x
    exact (m1Cycles_prefix hpre hbytes (by simp [hlen])).trans (opcodeFetches_prefix hpre _ _).symm

theorem Encodes.latchByte (b : Byte) : latchByte i = (used.take (opcodeFetches used)).getLast?.getD b := by
  have hm1 := h.m1Cycles
  obtain ⟨hop, hbytes, -⟩ := h
  rw [Machine.latchByte, hm1, hbytes]
  generalize args.length = n at hop
  cases hop with
  | base | ignored => rfl
  | cb op => rfl
  | ed op => rfl
  | xy x => rw [opcodeFetches_prefix (isPrefixByte_xyByte x)]; rfl
  | xyCb x => rw [opcodeFetches_prefix (isPrefixByte_xyByte x)]; rfl

/-- Every unprefixed encoding is documented; in any other the identifying bytes are the opcode (R326). -/
theorem Encodes.idBytes : idBytes i = ident ∨ documented ident = true := by
  obtain ⟨hop, hbytes, hlen⟩ := h
  rw [Machine.idBytes, hbytes]
  generalize hn : args.length = n at hop
  cases hop with
  | base => exact .inr rfl
  | cb | ed => exact .inl rfl
  | ignored x hchain => exact .inl (if_neg fun hcb => ne_cb_of_chain hchain hcb.2)
  | xy x _ hcb => exact .inl (if_neg fun h => hcb h.2)
  | xyCb x =>
    rw [List.length_eq_zero_iff.1 hn]
    cases x <;> exact .inl rfl

/-- An undocumented encoding is consumed as far as it is identified, but for the byte an ignored prefix looks at (R324, R326). -/
theorem Encodes.consumed (hdoc : documented ident = false) : (if i.length = 1 then 1 else ident.length) = used.length := by
  obtain ⟨hop, -, hlen⟩ := h
  generalize hn : args.length = n at hop
  cases hop with
  | base => cases hdoc
  | ignored =>
    rw [hlen, hn]
    rfl
  | _ => exact if_neg (by simp [hlen])

theorem Encodes.fetched (s : State) : fetched i s = s.beginStep.fetching (used ++ args) := by
  simp only [Machine.fetched, State.fetching, h.m1Cycles, h.latchByte s.latch, h.length, List.length_append, Nat.add_comm,
    h.opcode.opcodeFetches_append le_rfl, List.take_append_of_le_length h.opcode.opcodeFetches_le]
  rfl

end

end Sys2Proof
end

section
/-! The fetch of a step: an instruction that is fetched whole, one that is undocumented, and one that ends at an unreadable byte
(30_encoding.md R300 to R308, R326; 60_exceptions.md R901, R903, R907). -/

namespace Sys2Proof.Machine

/-- Settles O4: each word is decoded by its table. -/
theorem specWordsDecode : Obligations.SpecWordsDecode :=
  ⟨rfl, rfl, rfl, rfl, rfl, rfl, rfl, rfl, rfl⟩

section
variable {ident used args : List Byte} {i : Instr} {s : State}

/-- The operand bytes end the fetch with the instruction (R308). -/
theorem fetchOperands_encodes (h : Encodes ident used args i) (hwf : i.wf = true)
    (hp : s.params.undocPolicy = .execute ∨ i.documented = true) (hargs : BytesAt s s.pc args) :
    fetchOperands ident args.length s = .ok (i, s.skip args.length) := by
  rw [h.documented_eq] at hp
  have hd : decode (ident ++ args) = .ok (i, i.length) := by
    rw [← h.bytes]
    exact Laws.RoundTrip.decode_encode i hwf
  exact fetchOperands_ok hp hargs hd

theorem fetchInstr_encodes (h : Encodes ident used args i) (hwf : i.wf = true)
    (hp : s.params.undocPolicy = .execute ∨ i.documented = true) (hbytes : BytesAt s s.pc (encode i)) :
    fetchInstr s = .ok (i, s.fetching (used ++ args)) := by
  rw [h.bytes, bytesAt_append] at hbytes
  obtain ⟨hid, hargs⟩ := hbytes
  have hskip := h.opcode.fetching_skip s le_rfl
  rw [fetchInstr_opcode h.opcode hid, ← hskip]
  rcases Nat.eq_zero_or_pos args.length with hn | hn
  · obtain rfl := List.length_eq_zero_iff.1 hn
    exact fetchOperands_encodes h hwf hp (bytesAt_nil _ _)
  · obtain rfl := h.opcode.used_eq hn
    exact fetchOperands_encodes h hwf hp hargs

end

theorem step_fetched {s u : State} {i : Instr} (hk : stepKind s.nextInput s.beginStep = .instruction)
    (h : fetchInstr s.beginStep = .ok (i, u)) : step s = endStep (endOf i).1 (endOf i).2 (exec i u) := by
  rw [step, hk]
  simp only [runInstr, h]

theorem step_fetch_error {s : State} {e : Fault} (hk : stepKind s.nextInput s.beginStep = .instruction)
    (h : fetchInstr s.beginStep = .error e) : step s = .fault e := by
  rw [step, hk]
  simp only [runInstr, h]

/-- Settles O5: the step fetches the opcode and the operand bytes that stand at PC. -/
theorem stepRunsTheDecodedInstruction : Obligations.StepRunsTheDecodedInstruction := by
  intro s i hk hwf hrow hp hbytes
  obtain ⟨ident, used, args, h⟩ := exists_encodes hwf hrow
  rw [h.fetched]
  exact step_fetched hk (fetchInstr_encodes h hwf hp hbytes)

/-- Settles O21: the opcode that stands at PC is undocumented, so the fetch ends before the operand bytes. -/
theorem undocumentedEncodingFaults : Obligations.UndocumentedEncodingFaults := by
  intro s i hp hk hwf hrow hdoc hbytes
  obtain ⟨ident, used, args, h⟩ := exists_encodes hwf hrow
  rw [h.documented_eq] at hdoc
  have hid : idBytes i = ident := h.idBytes.resolve_right (by rw [hdoc]; decide)
  rw [hid] at hbytes ⊢
  have hfetch : fetchInstr s.beginStep = _ := fetchInstr_opcode h.opcode hbytes
  rw [fetchOperands_undocumented (s := s.beginStep.fetching used) _ hp hdoc] at hfetch
  rw [step_fetch_error hk hfetch, h.consumed hdoc, h.m1Cycles, h.latchByte s.latch]
  rfl

/-- The ways a fetch fails: at an unreadable byte, after at most three, or at an opcode the policy refuses. -/
theorem fetchInstr_eq_error {s : State} {e : Fault} (h : fetchInstr s = .error e) :
    (∃ bytes err, bytes.length ≤ 3 ∧ BytesAt s s.pc bytes ∧ s.peek (s.pc + BitVec.ofNat 16 bytes.length) = .error err ∧
        e = err.toFault (s.fetching bytes)) ∨
      s.params.undocPolicy = .fault ∧ ∃ bytes, e = .unknownOpcode bytes e.left ∧ documented bytes = false ∧ BytesAt s s.pc bytes := by
  rcases unfinished_or_opcode_at s with ⟨bytes, err, hop, hbytes, herr⟩ | ⟨ident, used, n, hop, hbytes⟩
  · cases h.symm.trans (fetchInstr_unfinished hop hbytes herr)
    exact .inl ⟨bytes, err, hop.length_le, hbytes, herr, rfl⟩
  rw [fetchInstr_opcode hop hbytes] at h
  rcases policy_cases s.params.undocPolicy ident with hp | ⟨hp, hdoc⟩
  · rcases bytesAt_or_error (s.fetching used) (s.fetching used).pc n with ⟨args, rfl, hargs⟩ | ⟨args, err, hlt, hargs, herr⟩
    · obtain ⟨i, -, hd⟩ := (hop.answers args).complete le_rfl
      cases h.symm.trans (fetchOperands_ok hp hargs hd)
    · obtain rfl := hop.used_eq (Nat.zero_lt_of_lt hlt)
      have hlen := hop.lengths.2.2
      cases h.symm.trans (fetchOperands_error hp hlt hargs herr)
      refine .inl ⟨used ++ args, err, ?_, (bytesAt_append _ _ _ _).2 ⟨hbytes, hargs⟩, ?_, ?_⟩
      · rw [List.length_append]
        omega
      · rw [List.length_append, BitVec.ofNat_add, ← BitVec.add_assoc]
        exact herr
      · rw [hop.fetching_skip s hlt.le]
  · cases h.symm.trans (fetchOperands_undocumented n (s := s.fetching used) hp hdoc)
    exact .inr ⟨hp, ident, rfl, hdoc, hbytes⟩

/-- A fetch fails at an unreadable byte of the instruction that stands at PC, where the policy does not end it before. -/
theorem fetchInstr_unreadable {s : State} {i : Instr} {k : Nat} {err : AccessError} (hwf : i.wf = true)
    (hrow : i.isPrefixRow = false) (hk : k < (encode i).length)
    (hp : s.params.undocPolicy = .execute ∨ i.documented = true ∨ k < (idBytes i).length)
    (hbytes : BytesAt s s.pc ((encode i).take k)) (herr : s.peek (s.pc + BitVec.ofNat 16 k) = .error err) :
    fetchInstr s = .error (err.toFault (s.fetching ((encode i).take k))) := by
  obtain ⟨ident, used, args, h⟩ := exists_encodes hwf hrow
  have htake : ((encode i).take k).length = k := List.length_take_of_le hk.le
  rw [h.bytes] at hk hbytes htake ⊢
  rcases Nat.lt_or_ge k ident.length with hlt | hge
  · rw [List.take_append_of_le_length hlt.le] at hbytes htake ⊢
    exact fetchInstr_unfinished (h.opcode.unfinished_take hlt) hbytes (by rwa [htake])
  · obtain ⟨m, rfl⟩ := Nat.exists_eq_add_of_le hge
    rw [List.length_append] at hk
    have hm : m < args.length := Nat.lt_of_add_lt_add_left hk
    have hlen : (args.take m).length = m := List.length_take_of_le hm.le
    have hdoc : s.params.undocPolicy = .execute ∨ documented ident = true := by
      rw [h.documented_eq] at hp
      rcases hp with hp | hp | hp
      · exact .inl hp
      · exact .inr hp
      · exact .inr (h.idBytes.resolve_left fun hid => by rw [hid] at hp; omega)
    obtain rfl := h.opcode.used_eq (Nat.zero_lt_of_lt hm)
    rw [List.take_length_add_append, bytesAt_append] at hbytes
    obtain ⟨hid, hargs⟩ := hbytes
    rw [BitVec.ofNat_add, ← BitVec.add_assoc] at herr
    rw [List.take_length_add_append, fetchInstr_opcode h.opcode hid, ← h.opcode.fetching_skip s (hlen.trans_le hm.le)]
    exact fetchOperands_error hdoc (hlen.trans_lt hm) hargs (by rwa [hlen])

/-- Settles O20: what a failing fetch has read, and which byte makes it fail. -/
theorem fetchFaultKeepsTheRest : Obligations.FetchFaultKeepsTheRest := by
  intro s hk
  refine ⟨fun e he => ⟨step_fetch_error hk he, fetchInstr_eq_error he⟩, ?_⟩
  intro i k err hwf hrow hlt hp hbytes herr
  exact step_fetch_error hk (fetchInstr_unreadable hwf hrow hlt hp hbytes herr)

end Sys2Proof.Machine
end

section
/-! How an instruction ends: in a next state, or in the fault of one of its memory accesses, at an address that `reads` or `writes` names
(60_exceptions.md R901, R902, R907). So it completes where its bytes are accessible, and raises no other fault. -/

namespace Sys2Proof.Machine

/-! ## Results of memory accesses -/

/-- The result is a next state, or the fault of a failing access to one of the addresses read or written, as `s` has them. -/
inductive Accesses (s : State) (rs ws : List Word) : Result → Prop where
  | next (t : State) : Accesses s rs ws (.next t)
  | read {a : Word} {err : AccessError} (left : State) (ha : a ∈ rs) (h : s.peek a = .error err) :
      Accesses s rs ws (.fault (err.toFault left))
  | write {a : Word} {err : AccessError} (left : State) (ha : a ∈ ws) (h : WriteFails s a err) :
      Accesses s rs ws (.fault (err.toFault left))

/-- A write fails the same way whatever memory holds: the bus alone decides (20_memory.md R208, R210). -/
theorem writeFails_of_bus {s u : State} {a : Word} {err : AccessError} (hbus : u.bus = s.bus) (h : WriteFails u a err) :
    WriteFails s a err := by
  intro v
  have hv := h v
  rw [hbus] at hv
  unfold AddressSpace.write Component.write at hv ⊢
  cases hc : s.bus.boundTo (slotOf a) with
  | none => simpa only [hc] using hv
  | some c =>
    simp only [hc] at hv ⊢
    by_cases hin : c.contains a = true
    · cases hkind : c.kind <;> simp [hin, hkind] at hv ⊢
      exact hv
    · simpa only [if_neg hin] using hv

section
variable {s u : State} {rs ws : List Word} {a : Word}

theorem accesses_loadByte {k : Byte → Result} (hpeek : u.peek a = s.peek a) (ha : a ∈ rs)
    (hk : ∀ v, Accesses s rs ws (k v)) : Accesses s rs ws (loadByte u a k) := by
  rcases loadByte_cases u a k with ⟨v, -, h⟩ | ⟨err, herr, h⟩ <;> rw [h]
  · exact hk v
  · exact .read u ha (hpeek.symm.trans herr)

theorem accesses_storeByte {v : Byte} {k : State → Result} (hbus : u.bus = s.bus) (ha : a ∈ ws)
    (hk : Accesses s rs ws (k (u.put a v))) : Accesses s rs ws (storeByte u a v k) := by
  rcases storeByte_cases u a v k with ⟨-, h⟩ | ⟨err, -, herr, h⟩ <;> rw [h]
  · exact hk
  · exact .write u ha (writeFails_of_bus hbus herr)

theorem accesses_ite {c : Prop} [Decidable c] (t t' : State) : Accesses s rs ws (if c then .next t else .next t') := by
  split <;> exact .next _

theorem accesses_andThen {res : Result} {k : State → State} (h : Accesses s rs ws res) :
    Accesses s rs ws (andThen res fun t => .next (k t)) := by
  cases h with
  | next t => exact .next _
  | read left ha h => exact .read left ha h
  | write left ha h => exact .write left ha h

end

/-! ## The families of instructions -/

section
variable (s : State) (a v : Word) (n : Nat)

theorem accesses_load (k : Byte → State) : Accesses s [a] [] (loadByte s a fun w => .next (k w)) :=
  accesses_loadByte rfl List.mem_cons_self fun _ => .next _

theorem accesses_storeAt (w : Byte) : Accesses s [] [a] (storeAt s a w n) :=
  accesses_storeByte rfl List.mem_cons_self (.next _)

/-- INC, DEC, the rotates and the shifts of a byte in memory. -/
theorem accesses_modifyFlags_tick (f : Byte → Flags → Byte × Flags) :
    Accesses s [a] [a] (modifyFlags s a f fun _ u => .next (u.tick n)) :=
  accesses_loadByte rfl List.mem_cons_self fun _ => accesses_storeByte rfl List.mem_cons_self (.next _)

theorem accesses_rotateCopy (op : RotOp) (r : Reg8) : Accesses s [a] [a] (rotateCopy op s a r) :=
  accesses_loadByte rfl List.mem_cons_self fun _ => accesses_storeByte rfl List.mem_cons_self (.next _)

theorem accesses_changeBitAt (change : Byte → Byte) : Accesses s [a] [a] (changeBitAt s a change n) :=
  accesses_loadByte rfl List.mem_cons_self fun _ => accesses_storeByte rfl List.mem_cons_self (.next _)

theorem accesses_changeBitCopy (change : Byte → Byte) (r : Reg8) : Accesses s [a] [a] (changeBitCopy s a change r) :=
  accesses_loadByte rfl List.mem_cons_self fun _ => accesses_storeByte rfl List.mem_cons_self (.next _)

theorem accesses_rotateDigit (newByte lowDigit : Byte → Byte) :
    Accesses s [s.hl] [s.hl] (rotateDigit s newByte lowDigit) :=
  accesses_loadByte (u := s) rfl List.mem_cons_self fun _ =>
    accesses_storeByte (u := s) rfl List.mem_cons_self (.next _)

theorem accesses_loadWord_tick (keep : Word → State) :
    Accesses s [a, a + 1#16] [] (loadWord s a fun w => .next ((keep w).tick n)) :=
  accesses_loadByte rfl (by simp) fun _ => accesses_loadByte rfl (by simp) fun _ => .next _

theorem accesses_storeWord_tick : Accesses s [] [a, a + 1#16] (storeWord s a v fun u => .next (u.tick n)) :=
  accesses_storeByte rfl (by simp) (accesses_storeByte rfl (by simp) (.next _))

theorem accesses_push16 (k : State → State) :
    Accesses s [] [s.sp - 1#16, s.sp - 2#16] (push16 s v fun u => .next (k u)) := by
  unfold push16
  refine accesses_storeByte (u := { s with sp := s.sp - 1#16 }) rfl List.mem_cons_self ?_
  exact accesses_storeByte rfl (by simp [State.put, sub_one_sub_one]) (.next _)

theorem accesses_push16_tick : Accesses s [] [s.sp - 1#16, s.sp - 2#16] (push16 s v fun u => .next (u.tick n)) :=
  accesses_push16 s v (·.tick n)

theorem accesses_call : Accesses s [] [s.sp - 1#16, s.sp - 2#16] (call s v n) := accesses_push16 s s.pc fun u => State.tick { u with pc := v } n

theorem accesses_pop16_tick (keep : Word → State → State) :
    Accesses s [s.sp, s.sp + 1#16] [] (pop16 s fun w u => .next ((keep w u).tick n)) :=
  accesses_loadByte rfl (by simp) fun _ => accesses_loadByte (u := { s with sp := s.sp + 1#16 }) rfl (by simp) fun _ => .next _

theorem accesses_popPc : Accesses s [s.sp, s.sp + 1#16] [] (popPc s n) :=
  accesses_pop16_tick s n fun w u => { u with pc := w }

theorem accesses_returnFromInterrupt : Accesses s [s.sp, s.sp + 1#16] [] (returnFromInterrupt s) :=
  accesses_pop16_tick s 14 fun w u => { u with pc := w, iff1 := u.iff2 }

theorem accesses_exchangeTop (keep : Word → State → State) :
    Accesses s [s.sp, s.sp + 1#16] [s.sp, s.sp + 1#16] (exchangeTop s v n keep) := by
  unfold exchangeTop
  refine accesses_loadByte rfl (by simp) fun _ => accesses_loadByte rfl (by simp) fun _ => ?_
  exact accesses_storeByte rfl (by simp) (accesses_storeByte rfl (List.mem_cons_self (a := s.sp)) (.next _))

section
variable (dir : Dir) (k : State → State)

theorem accesses_blockLoad : Accesses s [s.hl] [s.de] (blockLoad dir s fun u => .next (k u)) :=
  accesses_loadByte rfl List.mem_cons_self fun _ => accesses_storeByte rfl (List.mem_cons_self (a := s.de)) (.next _)

theorem accesses_blockCompare : Accesses s [s.hl] [] (blockCompare dir s fun u => .next (k u)) :=
  accesses_loadByte rfl List.mem_cons_self fun _ => .next _

theorem accesses_blockIn : Accesses s [] [s.hl] (blockIn dir s fun u => .next (k u)) := by
  unfold blockIn
  exact accesses_storeByte (u := (ioRead s s.bc).2) rfl (List.mem_cons_self (a := s.hl)) (.next _)

theorem accesses_blockOut : Accesses s [s.hl] [] (blockOut dir s fun u => .next (k u)) :=
  accesses_loadByte rfl List.mem_cons_self fun _ => .next _

end

end

/-- A conditional return or call: where it is not taken it accesses nothing (48_jump_call_return.md R811, R816). -/
theorem accesses_retCc (cc : Cond) (s : State) :
    Accesses s (reads (.retCc cc) s) (writes (.retCc cc) s) (exec (.retCc cc) s) := by
  change Accesses s (if s.cond cc then [s.sp, s.sp + 1#16] else []) [] (if s.cond cc then popPc s 11 else .next (s.tick 5))
  split
  · exact accesses_popPc s 11
  · exact .next _

theorem accesses_callCcNn (cc : Cond) (nn : Word) (s : State) :
    Accesses s (reads (.callCcNn cc nn) s) (writes (.callCcNn cc nn) s) (exec (.callCcNn cc nn) s) := by
  change Accesses s [] (if s.cond cc then [s.sp - 1#16, s.sp - 2#16] else [])
    (if s.cond cc then call s nn 17 else .next (s.tick 10))
  split
  · exact accesses_call s nn 17
  · exact .next _

/-! ## Instructions -/

/-- An unprefixed instruction (R315). -/
theorem accesses_execUnprefixed {i : Instr} (s : State) (hbase : encodeBase i ≠ []) (hrow : i.isPrefixRow = false) :
    Accesses s (readsBase i s) (writesBase i s) (execUnprefixed i s) := by
  cases i with
  | prefixCb | prefixEd | prefixDd | prefixFd => cases hrow
  | nop | addHlRp | rlca | rrca | rla | rra | daa | cpl | scf | ccf | exAfAf | exx | jpHl | ldSpHl | exDeHl | di | ei | halt
  | jrE | jpNn | outAtNA | inAAtN | addAS | addAN | adcAS | adcAN | subS | subN | sbcAS | sbcAN | andS | andN | xorS | xorN
  | orS | orN | cpS | cpN | ldRpNn | incRp | decRp | incR | decR | ldRN | ldRS =>
    exact .next _
  | jpCcNn | jrCcE | djnzE => exact accesses_ite _ _
  | addAAtHl | adcAAtHl | subAtHl | sbcAAtHl | andAtHl | xorAtHl | orAtHl | cpAtHl | ldRAtHl | ldAAtBc | ldAAtDe | ldAAtNn =>
    exact accesses_load s _ _
  | ldAtBcA | ldAtDeA | ldAtNnA | ldAtHlN | ldAtHlS => exact accesses_storeAt s _ _ _
  | incAtHl | decAtHl => exact accesses_modifyFlags_tick s _ _ _
  | ldHlAtNn nn => exact accesses_loadWord_tick s nn 16 s.setHl
  | ldAtNnHl => exact accesses_storeWord_tick s _ _ _
  | exAtSpHl => exact accesses_exchangeTop s _ _ fun w u => u.setHl w
  | pushRp2 => exact accesses_push16_tick s _ _
  | callNn | rstP => exact accesses_call s _ _
  | popRp2 rp => exact accesses_pop16_tick s 10 fun w u => u.setStackPair rp w
  | ret => exact accesses_popPc s _
  | retCc cc => exact accesses_retCc cc s
  | callCcNn cc nn => exact accesses_callCcNn cc nn s
  | _ => exact absurd rfl hbase

/-- A row of the unprefixed table means by itself what it means behind a DD or FD (R323). -/
theorem exec_eq_execUnprefixed {i : Instr} (s : State) (hbase : encodeBase i ≠ []) (hrow : i.isPrefixRow = false) :
    exec i s = execUnprefixed i s := by
  cases i with
  | prefixCb | prefixEd | prefixDd | prefixFd => cases hrow
  | nop | ldRpNn | addHlRp | ldAtBcA | ldAtDeA | ldAtNnHl | ldAtNnA | ldAAtBc | ldAAtDe | ldHlAtNn | ldAAtNn | incRp | decRp
  | incR | incAtHl | decR | decAtHl | ldRN | ldAtHlN | rlca | rrca | rla | rra | daa | cpl | scf | ccf | exAfAf | ret | exx
  | jpHl | ldSpHl | exDeHl | di | ei | halt | djnzE | jrE | jrCcE | ldRS | ldRAtHl | ldAtHlS | addAS | addAAtHl | addAN
  | adcAS | adcAAtHl | adcAN | subS | subAtHl | subN | sbcAS | sbcAAtHl | sbcAN | andS | andAtHl | andN | xorS | xorAtHl
  | xorN | orS | orAtHl | orN | cpS | cpAtHl | cpN | retCc | popRp2 | jpCcNn | jpNn | outAtNA | inAAtN | exAtSpHl | callCcNn
  | pushRp2 | callNn | rstP => rfl
  | _ => exact absurd rfl hbase

/-- An instruction that a DD or FD does not affect is a row of the unprefixed table, no prefix (R321, R323). -/
theorem isPrefixRow_of_unaffected {i : Instr} (h : i.unaffected = true) : i.isPrefixRow = false := by
  cases i with
  | prefixCb | prefixEd | prefixDd | prefixFd | prefixDdCb | prefixFdCb => cases h
  | _ => rfl

theorem encodeBase_ne_nil_of_unaffected {i : Instr} (h : i.unaffected = true) : encodeBase i ≠ [] := by
  intro hnil
  have hd := Laws.RoundTrip.unprefixed_decodes .ix i h
  rw [hnil] at hd
  cases hd

theorem accesses_exec_of_base {i : Instr} {s : State} (hreads : reads i s = readsBase i s)
    (hwrites : writes i s = writesBase i s) (hbase : encodeBase i ≠ []) (hrow : i.isPrefixRow = false) :
    Accesses s (reads i s) (writes i s) (exec i s) := by
  rw [hreads, hwrites, exec_eq_execUnprefixed s hbase hrow]
  exact accesses_execUnprefixed s hbase hrow

/-- Every instruction ends in a next state, or in the fault of an access to an address it names. -/
theorem accesses_exec {i : Instr} (s : State) (hwf : i.wf = true) (hrow : i.isPrefixRow = false) :
    Accesses s (reads i s) (writes i s) (exec i s) := by
  cases i with
  | prefixCb | prefixEd | prefixDd | prefixFd | prefixDdCb | prefixFdCb => cases hrow
  | ddUnprefixed inner | fdUnprefixed inner =>
    have h := accesses_execUnprefixed s (encodeBase_ne_nil_of_unaffected (i := inner) hwf) (isPrefixRow_of_unaffected hwf)
    exact accesses_andThen h
  | ignoredDd | ignoredFd | im0 | im0Mirror | im1 | im1Mirror | im2 | im2Mirror | im01 | nopEd7 | nopEd | ldIA | ldRA | ldAI
  | ldAR | neg | negMirror | inFAtC | outAtCR | outAtC0 | adcHlRp | sbcHlRp | ldSpIx | ldSpIy | jpIx | jpIy | bitBR
  | addIxRp | addIyRp | incIx | incIy | decIx | decIy | ldIxNn | ldIyNn
  | addAIxHalf | addAIyHalf | adcAIxHalf | adcAIyHalf | subIxHalf | subIyHalf | sbcAIxHalf | sbcAIyHalf | andIxHalf
  | andIyHalf | xorIxHalf | xorIyHalf | orIxHalf | orIyHalf | cpIxHalf | cpIyHalf
  | resBR | setBR | ldRSIxHalf | ldRSIyHalf | ldIxHalfN | ldIyHalfN | incIxHalf | incIyHalf | decIxHalf | decIyHalf
  | rlcR | rrcR | rlR | rrR | slaR | sraR | sllR | srlR | inRAtC =>
    exact .next _
  | addAAtIxd | addAAtIyd | adcAAtIxd | adcAAtIyd | subAtIxd | subAtIyd | sbcAAtIxd | sbcAAtIyd | andAtIxd | andAtIyd
  | xorAtIxd | xorAtIyd | orAtIxd | orAtIyd | cpAtIxd | cpAtIyd | bitBAtHl | bitBAtIxd | bitBAtIyd | bitBAtIxdMirror
  | bitBAtIydMirror | ldRAtIxd | ldRAtIyd =>
    exact accesses_load s _ _
  | ldAtIxdS | ldAtIydS | ldAtIxdN | ldAtIydN => exact accesses_storeAt s _ _ _
  | rlcAtHl | rrcAtHl | rlAtHl | rrAtHl | slaAtHl | sraAtHl | sllAtHl | srlAtHl | rlcAtIxd | rlcAtIyd | rrcAtIxd | rrcAtIyd
  | rlAtIxd | rlAtIyd | rrAtIxd | rrAtIyd | slaAtIxd | slaAtIyd | sraAtIxd | sraAtIyd | sllAtIxd | sllAtIyd | srlAtIxd
  | srlAtIyd | incAtIxd | incAtIyd | decAtIxd | decAtIyd =>
    exact accesses_modifyFlags_tick s _ _ _
  | ldRRlcAtIxd | ldRRlcAtIyd | ldRRrcAtIxd | ldRRrcAtIyd | ldRRlAtIxd | ldRRlAtIyd | ldRRrAtIxd | ldRRrAtIyd | ldRSlaAtIxd
  | ldRSlaAtIyd | ldRSraAtIxd | ldRSraAtIyd | ldRSllAtIxd | ldRSllAtIyd | ldRSrlAtIxd | ldRSrlAtIyd =>
    exact accesses_rotateCopy s _ _ _
  | rld | rrd => exact accesses_rotateDigit s _ _
  | resBAtHl | setBAtHl | resBAtIxd | resBAtIyd | setBAtIxd | setBAtIyd => exact accesses_changeBitAt s _ _ _
  | ldRResBAtIxd | ldRResBAtIyd | ldRSetBAtIxd | ldRSetBAtIyd => exact accesses_changeBitCopy s _ _ _
  | ldRpAtNn rp nn => exact accesses_loadWord_tick s nn 20 (s.setPair rp)
  | ldHlAtNnEd nn => exact accesses_loadWord_tick s nn 20 s.setHl
  | ldIxAtNn nn => exact accesses_loadWord_tick s nn 20 (s.setXy .ix)
  | ldIyAtNn nn => exact accesses_loadWord_tick s nn 20 (s.setXy .iy)
  | ldAtNnRp | ldAtNnHlEd | ldAtNnIx | ldAtNnIy => exact accesses_storeWord_tick s _ _ _
  | pushIx | pushIy => exact accesses_push16_tick s _ _
  | popIx => exact accesses_pop16_tick s 14 fun w u => u.setXy .ix w
  | popIy => exact accesses_pop16_tick s 14 fun w u => u.setXy .iy w
  | reti | retn | retnMirror => exact accesses_returnFromInterrupt s
  | exAtSpIx => exact accesses_exchangeTop s _ _ fun w u => u.setXy .ix w
  | exAtSpIy => exact accesses_exchangeTop s _ _ fun w u => u.setXy .iy w
  | ldi | ldd => exact accesses_blockLoad s _ (·.tick 16)
  | ldir | lddr => exact accesses_blockLoad s _ fun u => repeatBlock (loadRepeats u) u
  | cpi | cpd => exact accesses_blockCompare s _ (·.tick 16)
  | cpir | cpdr => exact accesses_blockCompare s _ fun u => repeatBlock (compareRepeats u) u
  | ini | ind => exact accesses_blockIn s _ (·.tick 16)
  | inir | indr => exact accesses_blockIn s _ fun u => repeatBlockIo (ioRepeats u) u
  | outi | outd => exact accesses_blockOut s _ (·.tick 16)
  | otir | otdr => exact accesses_blockOut s _ fun u => repeatBlockIo (ioRepeats u) u
  | _ => exact accesses_exec_of_base rfl rfl (List.cons_ne_nil _ _) hrow

end Sys2Proof.Machine
end

section
/-! The statements of 30_encoding.md about what runs: no step is an unknown opcode under the execute policy (R327), and a DD or FD
before an opcode it does not affect (R323, R324). -/

namespace Sys2Proof.Machine

/-! ## Which faults a step raises -/

/-- Only the fetch raises an unknown opcode (60_exceptions.md R903): the fault of any result here is one of a memory access. -/
def AccessFaults (res : Result) : Prop := ∀ e, res = .fault e → ∃ err left, e = AccessError.toFault err left

theorem accessFaults_next (t : State) : AccessFaults (.next t) := by
  intro e h
  cases h

theorem accessFaults_refused (e : Refusal) : AccessFaults (.refused e) := by
  intro e' h
  cases h

theorem Accesses.accessFaults {s : State} {rs ws : List Word} {res : Result} (h : Accesses s rs ws res) :
    AccessFaults res := by
  rintro e rfl
  cases h with
  | read left => exact ⟨_, left, rfl⟩
  | write left => exact ⟨_, left, rfl⟩

theorem accessFaults_loadByte {s : State} {a : Word} {k : Byte → Result} (hk : ∀ v, AccessFaults (k v)) :
    AccessFaults (loadByte s a k) := by
  rcases loadByte_cases s a k with ⟨v, -, h⟩ | ⟨err, -, h⟩ <;> rw [h]
  · exact hk v
  · rintro e ⟨⟩
    exact ⟨err, s, rfl⟩

theorem accessFaults_storeByte {s : State} {a : Word} {v : Byte} {k : State → Result} (hk : ∀ u, AccessFaults (k u)) :
    AccessFaults (storeByte s a v k) := by
  rcases storeByte_cases s a v k with ⟨-, h⟩ | ⟨err, -, -, h⟩ <;> rw [h]
  · exact hk _
  · rintro e ⟨⟩
    exact ⟨err, s, rfl⟩

theorem accessFaults_takeInterrupt (s : State) (keep : Bool) (n : Nat) (target : State → (Word → Result) → Result)
    (htarget : ∀ u k, (∀ v, AccessFaults (k v)) → AccessFaults (target u k)) :
    AccessFaults (takeInterrupt s keep n target) := by
  unfold takeInterrupt push16
  refine accessFaults_storeByte fun _ => accessFaults_storeByte fun _ => htarget _ _ fun _ => ?_
  exact accessFaults_next _

theorem accessFaults_acceptNmi (s : State) : AccessFaults (acceptNmi s) :=
  accessFaults_takeInterrupt _ _ _ _ fun _ _ hk => hk _

theorem accessFaults_acceptInt (busByte : Byte) (s : State) : AccessFaults (acceptInt busByte s) := by
  unfold acceptInt
  split
  · split
    · exact accessFaults_takeInterrupt _ _ _ _ fun _ _ hk => hk _
    · exact accessFaults_refused _
  · exact accessFaults_takeInterrupt _ _ _ _ fun _ _ hk => hk _
  · exact accessFaults_takeInterrupt _ _ _ _ fun _ _ hk => accessFaults_loadByte fun _ => accessFaults_loadByte fun _ => hk _

theorem accessFaults_endStep {block : IntBlock} {air : Bool} {res : Result} (h : AccessFaults res) :
    AccessFaults (endStep block air res) := fun e he => h e ((endStep_fault block air res e).1 he)

/-- A fetched instruction is well-formed (R312). -/
theorem fetchInstr_wf {s u : State} {i : Instr} (h : fetchInstr s = .ok (i, u)) : i.wf = true := by
  rcases unfinished_or_opcode_at s with ⟨bytes, err, hop, hbytes, herr⟩ | ⟨ident, used, n, hop, hbytes⟩
  · cases h.symm.trans (fetchInstr_unfinished hop hbytes herr)
  rw [fetchInstr_opcode hop hbytes] at h
  rcases policy_cases s.params.undocPolicy ident with hp | ⟨hp, hdoc⟩
  · rcases bytesAt_or_error (s.fetching used) (s.fetching used).pc n with ⟨args, rfl, hargs⟩ | ⟨args, err, hlt, hargs, herr⟩
    · obtain ⟨j, hrow, hd⟩ := (hop.answers args).complete le_rfl
      cases h.symm.trans (fetchOperands_ok hp hargs hd)
      exact hrow.wf
    · cases h.symm.trans (fetchOperands_error hp hlt hargs herr)
  · cases h.symm.trans (fetchOperands_undocumented n (s := s.fetching used) hp hdoc)

theorem accessFaults_step {s : State} (hp : s.params.undocPolicy = .execute) : AccessFaults (step s) := by
  unfold step
  split
  · exact accessFaults_endStep (accessFaults_acceptNmi _)
  · exact accessFaults_endStep (accessFaults_acceptInt _ _)
  · exact accessFaults_endStep (accessFaults_next _)
  · unfold runInstr
    split
    · rename_i i u hfetch
      exact accessFaults_endStep (accesses_exec u (fetchInstr_wf hfetch) (fetchInstr_eq_ok hfetch).1).accessFaults
    · rename_i e hfetch
      rintro _ ⟨⟩
      rcases fetchInstr_eq_error hfetch with ⟨_, err, -, -, -, he⟩ | ⟨hfault, -⟩
      · exact ⟨err, _, he⟩
      · exact absurd (hp.symm.trans hfault) (by decide)

/-- Settles O3: four bytes hold an instruction, and under the execute policy every fault is one of a memory access. -/
theorem everySequenceDecodes : Obligations.EverySequenceDecodes := by
  refine ⟨fun bytes hlen => decode_of_four hlen, fun s bytes left hp hstep => ?_⟩
  obtain ⟨err, u, he⟩ := accessFaults_step hp _ hstep
  cases err <;> cases he

/-! ## A DD or FD before another opcode -/

/-- An instruction completes where its bytes are accessible. -/
theorem exec_completes {i : Instr} {s : State} (hwf : i.wf = true) (hrow : i.isPrefixRow = false)
    (h : Accessible i s) : ∃ t, exec i s = .next t := by
  obtain ⟨hreads, hwrites⟩ := h
  have hres := accesses_exec s hwf hrow
  cases hexec : exec i s with
  | next t => exact ⟨t, rfl⟩
  | fault e =>
    rw [hexec] at hres
    cases hres with
    | read left ha herr =>
      obtain ⟨v, hv⟩ := hreads _ ha
      cases hv.symm.trans herr
    | write left ha herr => exact absurd (hwrites _ ha) (by rw [((writeFails_iff _ _ _).1 herr).1]; decide)
  | refused e =>
    rw [hexec] at hres
    cases hres

/-- Setting the cycle count changes no other field. -/
theorem frame_tick (s : State) (n : Nat) : Frame [.cycles] s (s.tick n) := by
  intro x hx
  cases x with
  | cycles => exact absurd List.mem_cons_self hx
  | _ => rfl

theorem ignoredPrefix_effect (x : XY) (next : ChainByte) (s : State) :
    Effect (x.pick (.ignoredDd next) (.ignoredFd next)) s [] [] 4 fun _ => True := by
  cases x <;> exact ⟨s.tick 4, rfl, rfl, frame_tick s 4, fun _ => rfl, trivial⟩

theorem exec_pickUnprefixed (x : XY) (inner : Instr) (s : State) (h : inner.unaffected = true) :
    exec (x.pick (.ddUnprefixed inner) (.fdUnprefixed inner)) s = addPrefixCycles (exec inner s) := by
  rw [exec_eq_execUnprefixed s (encodeBase_ne_nil_of_unaffected h) (isPrefixRow_of_unaffected h)]
  cases x <;> rfl

theorem wf_of_unaffected {i : Instr} (h : i.unaffected = true) : i.wf = true := by
  cases i with
  | ldAtNnRp | ldRpAtNn | negMirror | retnMirror | nopEd | ldRSIxHalf | ldRSIyHalf | ddUnprefixed | fdUnprefixed => cases h
  | _ => rfl

/-- EI under a DD or FD blocks INT as EI does; no other instruction there blocks anything (R323). -/
theorem endOf_pickUnprefixed (x : XY) {inner : Instr} (h : inner.unaffected = true) :
    endOf (x.pick (.ddUnprefixed inner) (.fdUnprefixed inner)) = endOf inner := by
  have hend : endOf (x.pick (.ddUnprefixed inner) (.fdUnprefixed inner)) = (if inner = .ei then .intOnly else .none, false) := by
    cases x
    · exact endOf_ddUnprefixed inner
    · exact endOf_fdUnprefixed inner
  rw [hend]
  cases inner with
  | ei => rfl
  | ldAI | ldAR | ddUnprefixed | fdUnprefixed | ignoredDd | ignoredFd => cases h
  | _ => rw [if_neg nofun]; rfl

/-- Settles O58: the prefix runs the unprefixed instruction, and adds its own cycles to a result that completes. -/
theorem indexPrefixesBeforeOtherOpcodes : Obligations.IndexPrefixesBeforeOtherOpcodes := by
  refine ⟨fun x next s => ⟨ignoredPrefix_effect x next s, by cases x <;> rfl⟩, fun x inner s hinner => ?_⟩
  have hexec := exec_pickUnprefixed x inner s hinner
  have hnext : ∀ t, exec inner s = .next t →
      exec (x.pick (.ddUnprefixed inner) (.fdUnprefixed inner)) s = .next { t with cycles := t.cycles + 4 } := by
    intro t ht
    rw [hexec, ht]
    rfl
  refine ⟨hnext, fun e he => by rw [hexec, he]; rfl, fun haccess => ?_, endOf_pickUnprefixed x hinner⟩
  obtain ⟨t, ht⟩ := exec_completes (wf_of_unaffected hinner) (isPrefixRow_of_unaffected hinner) haccess
  exact ⟨t, ht, hnext t ht⟩

end Sys2Proof.Machine
end

section
/-! The rows that are a prefix alone go on with the fetch of the instruction they begin (30_encoding.md R302, R312, log 11). -/

namespace Sys2Proof

/-- The opcode at the head of an instruction's bytes is that of the instruction, and what follows are its operand bytes. -/
theorem Opcode.encodes {ident used args : List Byte} {n : Nat} {i : Instr} (h : Opcode ident used n) (hwf : i.wf = true)
    (hbytes : encode i = ident ++ args) : args.length = n ∧ Encodes ident used args i := by
  have hd := Laws.RoundTrip.decode_encode i hwf
  rw [hbytes] at hd
  obtain ⟨hle, hi, hlen⟩ := h.decode_eq_ok hd
  have htake : args.take n = args := (List.append_cancel_left (hbytes.symm.trans hi.bytes)).symm
  have hn : args.length = n := by rw [← htake, List.length_take_of_le hle]
  exact ⟨hn, by rwa [hn], hbytes, by rw [hn, hlen]⟩

end Sys2Proof

namespace Sys2Proof.Machine

/-- The bytes of an instruction that is no prefix alone go past the prefix. -/
theorem not_unfinished_encode {i : Instr} (hwf : i.wf = true) (hrow : i.isPrefixRow = false) : ¬Unfinished (encode i) := fun h =>
  absurd ((h.decode_eq_ok (Laws.RoundTrip.decode_encode i hwf)).1.symm.trans hrow) (by decide)

theorem execRow_eq_exec {i : Instr} (s : State) (hrow : i.isPrefixRow = false) : execRow i s = exec i s := by
  cases i with
  | prefixCb | prefixEd | prefixDd | prefixFd | prefixDdCb | prefixFdCb => cases hrow
  | _ => rfl

/-! ## The state the instruction is executed in -/

/-- After a one-byte prefix an opcode byte and the operand bytes are fetched. -/
theorem fetchedAfter_of_prefix {row i : Instr} {b0 op : Byte} {more : List Byte} (s : State) (hlen : row.length = 1)
    (hm1 : row.m1Cycles = 1) (hb : IsPrefixByte b0) (hbytes : encode i = b0 :: op :: more) (hilen : i.length = more.length + 2) :
    fetchedAfter row i s = (s.afterOpcode op).skip more.length := by
  have him1 : i.m1Cycles = 2 := m1Cycles_prefix hb hbytes (by omega)
  have hpc : BitVec.ofNat 16 (more.length + 1) = 1#16 + BitVec.ofNat 16 more.length := by
    rw [Nat.add_comm, BitVec.ofNat_add]
  simp [fetchedAfter, State.skip, State.afterOpcode, latchByte, hlen, hilen, hm1, him1, hbytes, hpc, BitVec.add_assoc]

/-- Where no opcode fetch is left, PC alone moves on. -/
theorem fetchedAfter_of_m1Cycles_eq {row i : Instr} (s : State) (hm1 : i.m1Cycles = row.m1Cycles) :
    fetchedAfter row i s = s.skip (i.length - row.length) := by
  simp [fetchedAfter, State.skip, hm1]

section
variable {i : Instr} {s : State} {rest : List Byte} (hwf : i.wf = true) (hrow : i.isPrefixRow = false)
  (hp : s.params.undocPolicy = .execute ∨ i.documented = true)
include hwf hrow hp

theorem continueFetch_operands {ident used args : List Byte} (h : Encodes ident used args i) (hargs : BytesAt s s.pc args) :
    continueFetch (fetchOperands ident args.length s) = exec i (s.skip args.length) := by
  rw [fetchOperands_encodes h hwf hp hargs]
  exact execRow_eq_exec _ hrow

/-- After a DD CB or FD CB the displacement and the final opcode are left, and they come by no opcode fetch (R302). -/
theorem continueFetch_fetchXyCb (x : XY) (hbytes : encode i = xyByte x :: 0xCB#8 :: rest) (hat : BytesAt s s.pc rest) :
    rest.length = 2 ∧ i.length = 4 ∧ continueFetch (fetchXyCb x s) = exec i (s.skip 2) := by
  rcases rest with _ | ⟨d, _ | ⟨op, more⟩⟩
  · exact absurd (hbytes ▸ .xyCb x) (not_unfinished_encode hwf hrow)
  · exact absurd (hbytes ▸ .xyCbDisp x d) (not_unfinished_encode hwf hrow)
  obtain ⟨hd, hat⟩ := (bytesAt_cons _ _ _ _).1 hat
  obtain ⟨hop, -⟩ := (bytesAt_cons _ _ _ _).1 hat
  obtain ⟨hn, h⟩ := (Opcode.xyCb x d op).encodes hwf hbytes
  obtain rfl := List.length_eq_zero_iff.1 hn
  refine ⟨rfl, h.length, ?_⟩
  have hexec := continueFetch_operands (s := s.skip 2) hwf hrow hp h (bytesAt_nil _ _)
  rwa [List.length_nil, skip_zero, ← fetchXyCb_ok x hd hop] at hexec

/-! ## The rows -/

theorem exec_prefixCb (hbytes : encode i = 0xCB#8 :: rest) (hat : BytesAt s s.pc rest) :
    exec .prefixCb s = exec i (fetchedAfter .prefixCb i s) := by
  cases rest with
  | nil => exact absurd (hbytes ▸ .cb) (not_unfinished_encode hwf hrow)
  | cons op args =>
    obtain ⟨hop, hargs⟩ := (bytesAt_cons _ _ _ _).1 hat
    obtain ⟨hn, h⟩ := (Opcode.cb op).encodes hwf hbytes
    rw [fetchedAfter_of_prefix s rfl rfl (.inl rfl) hbytes h.length]
    change continueFetch (fetchCb s) = _
    rw [fetchCb_ok hop, ← hn]
    exact continueFetch_operands (s := s.afterOpcode op) hwf hrow hp h hargs

theorem exec_prefixEd (hbytes : encode i = 0xED#8 :: rest) (hat : BytesAt s s.pc rest) :
    exec .prefixEd s = exec i (fetchedAfter .prefixEd i s) := by
  cases rest with
  | nil => exact absurd (hbytes ▸ .ed) (not_unfinished_encode hwf hrow)
  | cons op args =>
    obtain ⟨hop, hargs⟩ := (bytesAt_cons _ _ _ _).1 hat
    obtain ⟨hn, h⟩ := (Opcode.ed op).encodes hwf hbytes
    rw [fetchedAfter_of_prefix s rfl rfl (.inr (.inl rfl)) hbytes h.length]
    change continueFetch (fetchEd s) = _
    rw [fetchEd_ok hop, ← hn]
    exact continueFetch_operands (s := s.afterOpcode op) hwf hrow hp h hargs

theorem exec_prefixXyCb (x : XY) (hbytes : encode i = xyByte x :: 0xCB#8 :: rest) (hat : BytesAt s s.pc rest) :
    exec (x.pick .prefixDdCb .prefixFdCb) s = exec i (fetchedAfter (x.pick .prefixDdCb .prefixFdCb) i s) := by
  obtain ⟨-, hlen, hexec⟩ := continueFetch_fetchXyCb hwf hrow hp x hbytes hat
  have hm1 : i.m1Cycles = 2 := m1Cycles_prefix (isPrefixByte_xyByte x) hbytes (by omega)
  have hrowLen : (x.pick Instr.prefixDdCb .prefixFdCb).length = 2 := by cases x <;> rfl
  have hrowM1 : (x.pick Instr.prefixDdCb .prefixFdCb).m1Cycles = 2 := by cases x <;> rfl
  rw [fetchedAfter_of_m1Cycles_eq s (hm1.trans hrowM1.symm), hlen, hrowLen]
  cases x <;> exact hexec

/-- What a DD or FD begins: an ignored prefix, which is executed before the byte looked at is fetched (R324), a DD CB or FD CB
instruction, or an opcode of its own table. -/
theorem exec_prefixXy (x : XY) (hbytes : encode i = xyByte x :: rest) (hat : BytesAt s s.pc rest) :
    exec (x.pick .prefixDd .prefixFd) s = exec i (fetchedAfter (x.pick .prefixDd .prefixFd) i s) := by
  have hrowLen : (x.pick Instr.prefixDd .prefixFd).length = 1 := by cases x <;> rfl
  have hrowM1 : (x.pick Instr.prefixDd .prefixFd).m1Cycles = 1 := by cases x <;> rfl
  have hexec : exec (x.pick .prefixDd .prefixFd) s = continueFetch (fetchXy x s) := by cases x <;> rfl
  rw [hexec]
  cases rest with
  | nil => exact absurd (hbytes ▸ .xy x) (not_unfinished_encode hwf hrow)
  | cons op args =>
    obtain ⟨hop, hargs⟩ := (bytesAt_cons _ _ _ _).1 hat
    rcases secondByte_cases op with hchain | rfl | ⟨hchain, hcb⟩
    · obtain ⟨hn, h⟩ := (Opcode.ignored x hchain).encodes hwf hbytes
      obtain rfl := List.length_eq_zero_iff.1 hn
      rw [fetchedAfter_of_m1Cycles_eq s (h.m1Cycles.trans hrowM1.symm), h.length, hrowLen, fetchXy_ignored x hop hchain]
      exact continueFetch_operands hwf hrow hp h (bytesAt_nil _ _)
    · obtain ⟨hmore, hlen, hcb⟩ := continueFetch_fetchXyCb (s := s.afterOpcode 0xCB#8) hwf hrow hp x hbytes hargs
      rw [fetchedAfter_of_prefix s hrowLen hrowM1 (isPrefixByte_xyByte x) hbytes (by omega), fetchXy_cb x hop, hcb, hmore]
    · obtain ⟨hn, h⟩ := (Opcode.xy x hchain hcb).encodes hwf hbytes
      rw [fetchedAfter_of_prefix s hrowLen hrowM1 (isPrefixByte_xyByte x) hbytes h.length, fetchXy_ok x hop hchain hcb, ← hn]
      exact continueFetch_operands (s := s.afterOpcode op) hwf hrow hp h hargs

end

theorem exec_prefixRow {row i : Instr} {s : State} {rest : List Byte} (hprefix : row.isPrefixRow = true) (hwf : i.wf = true)
    (hrow : i.isPrefixRow = false) (hbytes : encode i = encode row ++ rest)
    (hp : s.params.undocPolicy = .execute ∨ i.documented = true) (hat : BytesAt s s.pc rest) :
    exec row s = exec i (fetchedAfter row i s) := by
  cases row with
  | prefixCb => exact exec_prefixCb hwf hrow hp hbytes hat
  | prefixEd => exact exec_prefixEd hwf hrow hp hbytes hat
  | prefixDd => exact exec_prefixXy hwf hrow hp .ix hbytes hat
  | prefixFd => exact exec_prefixXy hwf hrow hp .iy hbytes hat
  | prefixDdCb => exact exec_prefixXyCb hwf hrow hp .ix hbytes hat
  | prefixFdCb => exact exec_prefixXyCb hwf hrow hp .iy hbytes hat
  | _ => cases hprefix

/-- Settles O59: the row goes on with the fetch of the instruction and executes it. -/
theorem prefixRowsContinueTheFetch : Obligations.PrefixRowsContinueTheFetch := by
  intro row i s rest hprefix hwf hrow hbytes hp hat
  have hexec := exec_prefixRow hprefix hwf hrow hbytes hp hat
  refine ⟨hexec, fun haccess => ?_⟩
  rw [hexec]
  exact exec_completes hwf hrow haccess

end Sys2Proof.Machine
end

section
/-! The frames of the operations of State, and the effect of an instruction that loads or stores one byte and sets its cycle count
(20_memory.md R220, R221, 60_exceptions.md R907). -/

namespace Sys2Proof.Machine

/-! ## Frames -/

theorem Field.same.trans {x : Field} {s t u : State} (h : x.same s t) (h' : x.same t u) : x.same s u := by
  cases x <;> exact Eq.trans h' h

/-- What two updates change is what either of them changes. -/
theorem Frame.trans {changed changed' : List Field} {s t u : State} (h : Frame changed s t) (h' : Frame changed' t u) :
    Frame (changed' ++ changed) s u := fun x hx =>
  have ⟨hx', hx⟩ : x ∉ changed' ∧ x ∉ changed := by simpa using hx
  (h x hx).trans (h' x hx')

theorem frame_setReg (s : State) (r : Reg8) (v : Byte) : Frame [.ofReg r] s (s.setReg r v) := by
  intro x hx
  have hne : x ≠ .ofReg r := by simpa using hx
  cases x with
  | a | b | c | d | e | h | l =>
    revert hne
    cases r <;> simp [Field.ofReg, Field.same, State.setReg]
  | _ => simp [Field.same]

theorem frame_setXy (s : State) (x : XY) (v : Word) : Frame [.ofXy x] s (s.setXy x v) := by
  intro y hy
  have hne : y ≠ .ofXy x := by simpa using hy
  cases y with
  | ix | iy =>
    revert hne
    cases x <;> simp [Field.ofXy, Field.same, State.setXy]
  | _ => simp [Field.same]

theorem frame_setHalf (s : State) (x : XY) (half : Half) (v : Byte) : Frame [.ofXy x] s (s.setHalf x half v) := by
  cases half <;> exact frame_setXy s x _

theorem frame_setRegX (s : State) (x : XY) (r : RegX) (v : Byte) : Frame [.ofRegX x r] s (s.setRegX x r v) := by
  cases r with
  | xh => exact frame_setHalf s x .high v
  | xl => exact frame_setHalf s x .low v
  | a => exact frame_setReg s .a v
  | b => exact frame_setReg s .b v
  | c => exact frame_setReg s .c v
  | d => exact frame_setReg s .d v
  | e => exact frame_setReg s .e v

theorem frame_setFlags (s : State) (fl : Flags) : Frame [.f] s (s.setFlags fl) := by
  intro x hx
  cases x with
  | f => exact absurd List.mem_cons_self hx
  | _ => rfl

theorem frame_put (s : State) (a : Word) (v : Byte) : Frame [.mem] s (s.put a v) := by
  intro x hx
  cases x with
  | mem => exact absurd List.mem_cons_self hx
  | _ => rfl

/-! ## Registers after a cycle count, and the other half of an index register -/

@[simp] theorem reg_tick (s : State) (n : Nat) (r : Reg8) : (s.tick n).reg r = s.reg r := rfl

@[simp] theorem half_tick (s : State) (n : Nat) (x : XY) (half : Half) : (s.tick n).half x half = s.half x half := rfl

@[simp] theorem regX_tick (s : State) (n : Nat) (x : XY) (r : RegX) : (s.tick n).regX x r = s.regX x r := rfl

theorem half_other_setHalf (s : State) (x : XY) (half : Half) (v : Byte) :
    (s.setHalf x half v).half x half.other = s.half x half.other := by
  cases half with
  | high => exact State.half_low_setHalf_high s x v
  | low => exact State.half_high_setHalf_low s x v

/-! ## Effects -/

/-- An instruction that ends in `t` with its cycle count set has the frame of `t`, and stores nothing if `t` has memory and bus
of `s`. -/
theorem effect_tick {i : Instr} {s t : State} {changed : List Field} {n : Nat} {post : State → Prop}
    (hexec : exec i s = .next (t.tick n)) (hframe : Frame changed s t) (hmem : t.memoryPart = s.memoryPart)
    (hpost : post (t.tick n)) : Effect i s changed [] n post := by
  obtain ⟨hm, hb, -⟩ : t.mem = s.mem ∧ t.bus = s.bus ∧ t.params = s.params := by simpa [State.memoryPart] using hmem
  exact ⟨t.tick n, hexec, rfl, hframe.trans (frame_tick t n), fun a => peek_congr s (t.tick n) a hm hb, hpost⟩

theorem effect_setReg {i : Instr} {s : State} {r : Reg8} {v : Byte} {n : Nat}
    (hexec : exec i s = .next ((s.setReg r v).tick n)) : Effect i s [.ofReg r] [] n fun t => t.reg r = v :=
  effect_tick hexec (frame_setReg s r v) (memoryPart_setReg s r v) (by rw [reg_tick, State.reg_setReg])

/-- Loading one byte: the address is read before the register is written, so it is that of the old state. -/
theorem loadsFrom_loadReg {i : Instr} {s : State} {a : Word} {r : Reg8} {n : Nat} (hexec : exec i s = loadReg s r a n) :
    LoadsFrom i s a [.ofReg r] n fun v t => t.reg r = v := by
  constructor
  · intro v hv
    exact effect_setReg (hexec.trans (loadByte_ok s a v _ hv))
  · intro e he
    exact hexec.trans (loadByte_error s a e _ he)

theorem storesTo_storeAt {i : Instr} {s : State} {a : Word} {v : Byte} {n : Nat} (hexec : exec i s = storeAt s a v n) :
    StoresTo i s a v n := by
  constructor
  · intro ha
    exact ⟨(s.put a v).tick n, hexec.trans (storeByte_ok s a v _ ha), rfl, (frame_put s a v).trans (frame_tick _ n),
      fun b => peek_put_afterStores s a b v ha, trivial⟩
  · intro e he
    exact hexec.trans (storeByte_error s a v e _ he)

end Sys2Proof.Machine
end

section
/-! The statements of 40_load8.md. -/

namespace Sys2Proof.Machine

/-! ## Between registers, and of immediates -/

/-- Writing one half of an index register by its register code keeps the other half (R418). -/
theorem effect_setRegX {i : Instr} {s : State} {x : XY} {r : RegX} {v : Byte} {n : Nat}
    (hexec : exec i s = .next ((s.setRegX x r v).tick n)) :
    Effect i s [.ofRegX x r] [] n fun t =>
      t.regX x r = v ∧ (r = .xh → t.half x .low = s.half x .low) ∧ (r = .xl → t.half x .high = s.half x .high) := by
  refine effect_tick hexec (frame_setRegX s x r v) (memoryPart_setRegX s x r v) ⟨?_, ?_, ?_⟩
  · rw [regX_tick, State.regX_setRegX]
  · rintro rfl
    exact State.half_low_setHalf_high s x v
  · rintro rfl
    exact State.half_high_setHalf_low s x v

theorem effect_setHalf {i : Instr} {s : State} {x : XY} {half : Half} {v : Byte} {n : Nat}
    (hexec : exec i s = .next ((s.setHalf x half v).tick n)) :
    Effect i s [.ofXy x] [] n fun t => t.half x half = v ∧ t.half x half.other = s.half x half.other := by
  refine effect_tick hexec (frame_setHalf s x half v) (memoryPart_setHalf s x half v) ⟨?_, ?_⟩
  · rw [half_tick, State.half_setHalf]
  · rw [half_tick, half_other_setHalf]

/-- Settles O31: each instruction is one register update with its cycle count. -/
theorem load8BetweenRegisters : Obligations.Load8BetweenRegisters :=
  ⟨fun _ _ _ => effect_setReg rfl, fun _ _ _ => effect_setReg rfl,
    fun x _ _ _ => effect_setRegX (by cases x <;> rfl), fun x _ _ _ => effect_setHalf (by cases x <;> rfl)⟩

/-! ## From and to memory -/

/-- Settles O32: each instruction is the load of one register from its address. -/
theorem load8FromMemory : Obligations.Load8FromMemory := fun s =>
  ⟨fun _ => loadsFrom_loadReg rfl, fun x _ _ => loadsFrom_loadReg (by cases x <;> rfl),
    loadsFrom_loadReg (r := .a) rfl, loadsFrom_loadReg (r := .a) rfl, fun _ => loadsFrom_loadReg (r := .a) rfl⟩

/-- Settles O33: each instruction is the store of one byte at its address. -/
theorem store8ToMemory : Obligations.Store8ToMemory := fun s =>
  ⟨fun _ => storesTo_storeAt rfl, fun _ => storesTo_storeAt rfl, fun x _ _ => storesTo_storeAt (by cases x <;> rfl),
    fun x _ _ => storesTo_storeAt (by cases x <;> rfl), storesTo_storeAt rfl, storesTo_storeAt rfl,
    fun _ => storesTo_storeAt rfl⟩

/-! ## I and R -/

theorem frame_i (s : State) (v : Byte) : Frame [.i] s { s with i := v } := by
  intro x hx
  cases x with
  | i => exact absurd List.mem_cons_self hx
  | _ => rfl

theorem frame_r (s : State) (v : Byte) : Frame [.r] s { s with r := v } := by
  intro x hx
  cases x with
  | r => exact absurd List.mem_cons_self hx
  | _ => rfl

/-- A takes the byte, F its S, Z, F5 and F3 with PV from IFF2; the flag left over is C (R414, R415). -/
theorem loadSpecial_eq (s : State) (v : Byte) :
    loadSpecial s v = .next
      (((s.setFlags (resultFlags v { s.flags with h := false, n := false, pv := s.iff2 })).setReg .a v).tick 9) := by
  rw [loadSpecial, sz53_eq]
  rfl

theorem effect_loadSpecial {i : Instr} {s : State} {v : Byte} (hexec : exec i s = loadSpecial s v) :
    Effect i s [.a, .f] [] 9 fun t =>
      t.a = v ∧ t.flags = resultFlags v { s.flags with h := false, n := false, pv := s.iff2 } :=
  effect_tick (hexec.trans (loadSpecial_eq s v)) ((frame_setFlags s _).trans (frame_setReg _ .a v)) rfl
    ⟨rfl, State.flags_setFlags s _⟩

/-- Settles O34: LD A,I and LD A,R are one operation, and the other two write one field. -/
theorem specialRegisterLoads : Obligations.SpecialRegisterLoads := fun s =>
  ⟨effect_loadSpecial rfl, effect_loadSpecial rfl, rfl, rfl, effect_tick rfl (frame_i s s.a) rfl rfl,
    effect_tick rfl (frame_r s s.a) rfl rfl⟩

end Sys2Proof.Machine
end

section
/-! The frames of the register pairs and of SP, and the effect of an instruction that loads, stores, pushes or pops one word and sets
its cycle count (20_memory.md R222, R223, 41_load16.md R470, R471, 60_exceptions.md R907). -/

namespace Sys2Proof.Machine

/-! ## Frames -/

theorem Frame.refl (s : State) : Frame [] s s := fun x _ => by cases x <;> rfl

/-- A frame may name fields that did not change. -/
theorem Frame.mono {changed changed' : List Field} {s t : State} (h : Frame changed s t) (hsub : changed ⊆ changed') :
    Frame changed' s t := fun x hx => h x fun hmem => hx (hsub hmem)

theorem frame_sp (s : State) (v : Word) : Frame [.sp] s { s with sp := v } := by
  intro x hx
  cases x with
  | sp => exact absurd List.mem_cons_self hx
  | _ => rfl

theorem frame_f (s : State) (v : Byte) : Frame [.f] s { s with f := v } := by
  intro x hx
  cases x with
  | f => exact absurd List.mem_cons_self hx
  | _ => rfl

/-- However many bytes are stored, memory alone changes. -/
theorem frame_mem (s : State) (m : Memory) : Frame [.mem] s { s with mem := m } := by
  intro x hx
  cases x with
  | mem => exact absurd List.mem_cons_self hx
  | _ => rfl

theorem frame_mem_sp (s : State) (m : Memory) (v : Word) : Frame [.mem, .sp] s { s with sp := v, mem := m } :=
  (frame_sp s v).trans (frame_mem _ m)

theorem frame_setBc (s : State) (v : Word) : Frame [.b, .c] s (s.setBc v) :=
  (frame_setReg s .c (loByte v)).trans (frame_setReg _ .b (hiByte v))

theorem frame_setDe (s : State) (v : Word) : Frame [.d, .e] s (s.setDe v) :=
  (frame_setReg s .e (loByte v)).trans (frame_setReg _ .d (hiByte v))

theorem frame_setHl (s : State) (v : Word) : Frame [.h, .l] s (s.setHl v) :=
  (frame_setReg s .l (loByte v)).trans (frame_setReg _ .h (hiByte v))

theorem frame_setAf (s : State) (v : Word) : Frame [.a, .f] s (s.setAf v) :=
  (frame_f s (loByte v)).trans (frame_setReg _ .a (hiByte v))

theorem frame_setPair (s : State) (rp : RegPair) (v : Word) : Frame (Field.ofPair rp) s (s.setPair rp v) := by
  cases rp with
  | bc => exact frame_setBc s v
  | de => exact frame_setDe s v
  | hl => exact frame_setHl s v
  | sp => exact frame_sp s v

theorem frame_setStackPair (s : State) (rp : StackPair) (v : Word) :
    Frame (Field.ofStackPair rp) s (s.setStackPair rp v) := by
  cases rp with
  | bc => exact frame_setBc s v
  | de => exact frame_setDe s v
  | hl => exact frame_setHl s v
  | af => exact frame_setAf s v

/-! ## Effects -/

theorem peek_of_memoryPart {s t : State} (h : t.memoryPart = s.memoryPart) (a : Word) : t.peek a = s.peek a :=
  congrArg (fun (mem, bus, _) => AddressSpace.read bus mem a) h

section
variable {i : Instr} {s : State} {a v : Word} {changed : List Field} {n : Nat}

/-- Loading one word: `keep` puts it where it goes. -/
theorem loadsWordFrom_loadWord {keep : Word → State} {post : Word → State → Prop}
    (hexec : exec i s = loadWord s a fun w => .next ((keep w).tick n)) (hframe : ∀ w, Frame changed s (keep w))
    (hmem : ∀ w, (keep w).memoryPart = s.memoryPart) (hpost : ∀ w, post w ((keep w).tick n)) :
    LoadsWordFrom i s a changed n post := by
  refine ⟨?_, ?_, ?_⟩
  · intro lo hi hlo hhi
    exact effect_tick (hexec.trans (loadWord_ok s a lo hi _ hlo hhi)) (hframe _) (hmem _) (hpost _)
  · intro e he
    exact hexec.trans (loadWord_error_low s a e _ he)
  · intro lo e hlo he
    exact hexec.trans (loadWord_error_high s a lo e _ hlo he)

theorem storesWordTo_storeWord (hexec : exec i s = storeWord s a v fun u => .next (u.tick n)) : StoresWordTo i s a v n := by
  refine ⟨?_, ?_, ?_⟩
  · intro hlo hhi
    exact ⟨((s.put a (loByte v)).put (a + 1#16) (hiByte v)).tick n, hexec.trans (storeWord_ok s a v _ hlo hhi), rfl,
      (frame_mem s _).trans (frame_tick _ n), fun b => peek_put_put_afterStores s a _ b _ _ hlo hhi (ne_add_one a), trivial⟩
  · intro e he
    exact hexec.trans (storeWord_error_low s a v e _ he)
  · intro e hlo he
    exact ⟨s.put a (loByte v), hexec.trans (storeWord_error_high s a v e _ hlo he), frame_put s a _,
      fun b => peek_put_afterStores s a b _ hlo⟩

/-- Pushing one word: `keep` is what the instruction does after the push. -/
theorem pushes_push16 {keep : State → State} {post : State → Prop}
    (hexec : exec i s = push16 s v fun u => .next ((keep u).tick n)) (hframe : ∀ u, Frame changed u (keep u))
    (hmem : ∀ u, (keep u).memoryPart = u.memoryPart) (hsp : ∀ u, (keep u).sp = u.sp) (hpost : ∀ u, post ((keep u).tick n)) :
    Pushes i s v changed n post := by
  refine ⟨?_, ?_, ?_⟩
  · intro hhi hlo
    refine ⟨(keep (s.pushed v)).tick n, hexec.trans (push16_ok s v _ hhi hlo), rfl, ?_, ?_, hsp _, hpost _⟩
    · have hpushed : Frame [.mem, .sp] s (s.pushed v) := frame_mem_sp s _ _
      exact ((hpushed.trans (hframe _)).trans (frame_tick _ n)).mono (by grind)
    · exact fun b => (peek_of_memoryPart (hmem (s.pushed v)) b).trans (peek_pushed s v b hhi hlo)
  · intro e he
    exact hexec.trans (push16_error_high s v e _ he)
  · intro e hhi he
    exact ⟨_, hexec.trans (push16_error_low s v e _ hhi he), frame_mem_sp s _ _, rfl,
      fun b => peek_put_afterStores s _ b _ hhi⟩

/-- Popping one word: `keep` puts it where it goes, SP being past it. -/
theorem pops_pop16 {keep : Word → State → State} {post : Word → State → Prop}
    (hexec : exec i s = pop16 s fun w u => .next ((keep w u).tick n)) (hframe : ∀ w u, Frame changed u (keep w u))
    (hmem : ∀ w u, (keep w u).memoryPart = u.memoryPart) (hsp : ∀ w u, (keep w u).sp = u.sp)
    (hpost : ∀ w u, post w ((keep w u).tick n)) : Pops i s changed n post := by
  refine ⟨?_, ?_, ?_⟩
  · intro lo hi hlo hhi
    have hchanged := (frame_sp s (s.sp + 2#16)).trans (hframe (pair hi lo) _)
    exact effect_tick (hexec.trans (pop16_ok s lo hi _ hlo hhi)) (hchanged.mono (by grind)) (hmem _ _) ⟨hsp _ _, hpost _ _⟩
  · intro e he
    exact hexec.trans (pop16_error_low s e _ he)
  · intro lo e hlo he
    exact hexec.trans (pop16_error_high s lo e _ hlo he)

end

end Sys2Proof.Machine
end

section
/-! The statements of 41_load16.md. -/

namespace Sys2Proof.Machine

/-! ## Registers and memory -/

theorem effect_sp {i : Instr} {s : State} {v : Word} {n : Nat} (hexec : exec i s = .next ({ s with sp := v }.tick n)) :
    Effect i s [.sp] [] n fun t => t.sp = v :=
  effect_tick hexec (frame_sp s v) rfl rfl

/-- Settles O35: each instruction is one register update with its cycle count. -/
theorem load16OfRegisters : Obligations.Load16OfRegisters := by
  refine ⟨fun rp nn s => ?_, fun x nn s => ?_, fun _ => effect_sp rfl, fun x _ => effect_sp (by cases x <;> rfl)⟩
  · exact effect_tick rfl (frame_setPair s rp nn) (memoryPart_setPair s rp nn) (State.pairOf_setPair s rp nn)
  · exact effect_tick (by cases x <;> rfl) (frame_setXy s x nn) (memoryPart_setXy s x nn) (State.xy_setXy s x nn)

theorem loadsWordFrom_setHl {i : Instr} {s : State} {a : Word} {n : Nat}
    (hexec : exec i s = loadWord s a fun v => .next ((s.setHl v).tick n)) :
    LoadsWordFrom i s a [.h, .l] n fun v t => t.hl = v :=
  loadsWordFrom_loadWord hexec (frame_setHl s) (memoryPart_setHl s) (State.hl_setHl s)

/-- Settles O36: each instruction is the load of one register from the word at its address. -/
theorem load16FromMemory : Obligations.Load16FromMemory := by
  intro s nn
  refine ⟨loadsWordFrom_setHl rfl, fun rp => ?_, loadsWordFrom_setHl rfl, fun x => ?_⟩
  · exact loadsWordFrom_loadWord (keep := s.setPair rp) rfl (frame_setPair s rp) (memoryPart_setPair s rp)
      (State.pairOf_setPair s rp)
  · exact loadsWordFrom_loadWord (keep := s.setXy x) (by cases x <;> rfl) (frame_setXy s x) (memoryPart_setXy s x)
      (State.xy_setXy s x)

/-- Settles O37: each instruction is the store of one word at its address. -/
theorem store16ToMemory : Obligations.Store16ToMemory := fun _ _ =>
  ⟨storesWordTo_storeWord rfl, fun _ => storesWordTo_storeWord rfl, storesWordTo_storeWord rfl,
    fun x => storesWordTo_storeWord (by cases x <;> rfl)⟩

/-! ## The stack -/

/-- An instruction that does no more than push a word. -/
theorem pushes_tick {i : Instr} {s : State} {v : Word} {n : Nat} (hexec : exec i s = push16 s v fun u => .next (u.tick n)) :
    Pushes i s v [] n fun _ => True :=
  pushes_push16 (keep := id) hexec Frame.refl (fun _ => rfl) (fun _ => rfl) fun _ => trivial

/-- Settles O38: each instruction is the push of one word. -/
theorem pushStoresAPair : Obligations.PushStoresAPair := fun _ =>
  ⟨fun _ => pushes_tick rfl, fun x => pushes_tick (by cases x <;> rfl)⟩

/-- Settles O39: each instruction pops one word into its pair or index register. -/
theorem popLoadsAPair : Obligations.PopLoadsAPair := by
  intro s
  refine ⟨fun rp => ?_, fun x => ?_⟩
  · exact pops_pop16 (keep := fun w u => u.setStackPair rp w) rfl (fun w u => frame_setStackPair u rp w)
      (fun w u => memoryPart_setStackPair u rp w) (fun w u => State.setStackPair_sp u rp w)
      fun w u => State.stackPair_setStackPair u rp w
  · exact pops_pop16 (keep := fun w u => u.setXy x w) (by cases x <;> rfl) (fun w u => frame_setXy u x w)
      (fun w u => memoryPart_setXy u x w) (fun w u => State.setXy_sp u x w) fun w u => State.xy_setXy u x w

end Sys2Proof.Machine
end

section
/-! What the exchange with the top of the stack, one iteration of a block load or compare, and the repeat after it do: the state they
go on with, its frame, and the faults (42_exchange_block.md R503, R505, R506, R510). -/

namespace Sys2Proof.Machine

/-! ## The exchange with the top of the stack -/

section
variable {s : State} {v : Word} {n : Nat} {keep : Word → State → State} {lo hi : Byte} {e : AccessError}

theorem exchangeTop_of_reads (hlo : Reads s s.sp lo) (hhi : Reads s (s.sp + 1#16) hi) :
    exchangeTop s v n keep =
      storeByte s (s.sp + 1#16) (hiByte v) fun u => storeByte u u.sp (loByte v) fun u =>
        .next ((keep (pair hi lo) u).tick n) :=
  (loadByte_ok s _ lo _ hlo).trans (loadByte_ok s _ hi _ hhi)

/-- Once the high byte is stored, SP is as it was and the low byte follows. -/
theorem exchangeTop_of_high (hlo : Reads s s.sp lo) (hhi : Reads s (s.sp + 1#16) hi)
    (hwhi : s.writable (s.sp + 1#16) = true) :
    exchangeTop s v n keep =
      storeByte (s.put (s.sp + 1#16) (hiByte v)) s.sp (loByte v) fun u => .next ((keep (pair hi lo) u).tick n) :=
  (exchangeTop_of_reads hlo hhi).trans (storeByte_ok s _ _ _ hwhi)

theorem exchangeTop_ok (hlo : Reads s s.sp lo) (hhi : Reads s (s.sp + 1#16) hi)
    (hwlo : s.writable s.sp = true) (hwhi : s.writable (s.sp + 1#16) = true) :
    exchangeTop s v n keep =
      .next ((keep (pair hi lo) ((s.put (s.sp + 1#16) (hiByte v)).put s.sp (loByte v))).tick n) :=
  (exchangeTop_of_high hlo hhi hwhi).trans (storeByte_ok (s.put _ _) _ _ _ hwlo)

theorem exchangeTop_error_low (he : s.peek s.sp = .error e) : exchangeTop s v n keep = .fault (e.toFault s) :=
  loadByte_error s _ e _ he

theorem exchangeTop_error_high (hlo : Reads s s.sp lo) (he : s.peek (s.sp + 1#16) = .error e) :
    exchangeTop s v n keep = .fault (e.toFault s) :=
  (loadByte_ok s _ lo _ hlo).trans (loadByte_error s _ e _ he)

theorem exchangeTop_writeFails_high (hlo : Reads s s.sp lo) (hhi : Reads s (s.sp + 1#16) hi)
    (he : WriteFails s (s.sp + 1#16) e) : exchangeTop s v n keep = .fault (e.toFault s) :=
  (exchangeTop_of_reads hlo hhi).trans (storeByte_error s _ _ e _ he)

theorem exchangeTop_writeFails_low (hlo : Reads s s.sp lo) (hhi : Reads s (s.sp + 1#16) hi)
    (hwhi : s.writable (s.sp + 1#16) = true) (he : WriteFails s s.sp e) :
    exchangeTop s v n keep = .fault (e.toFault (s.put (s.sp + 1#16) (hiByte v))) :=
  (exchangeTop_of_high hlo hhi hwhi).trans
    (storeByte_error _ _ _ e _ ((writeFails_put s (s.sp + 1#16) s.sp _ e).2 he))

/-- The exchange completes: `keep` writes the register. -/
theorem effect_exchangeTop {i : Instr} {changed : List Field} {post : Word → State → Prop}
    (hexec : exec i s = exchangeTop s v n keep) (hframe : ∀ w u, Frame changed u (keep w u))
    (hmem : ∀ w u, (keep w u).memoryPart = u.memoryPart) (hpost : ∀ w u, post w ((keep w u).tick n))
    (hlo : Reads s s.sp lo) (hhi : Reads s (s.sp + 1#16) hi) (hwlo : s.writable s.sp = true)
    (hwhi : s.writable (s.sp + 1#16) = true) :
    Effect i s changed [(s.sp + 1#16, hiByte v), (s.sp, loByte v)] n (post (pair hi lo)) := by
  refine ⟨_, hexec.trans (exchangeTop_ok hlo hhi hwlo hwhi), rfl, ?_, ?_, hpost _ _⟩
  · exact (((frame_mem s _).trans (hframe _ _)).trans (frame_tick _ n)).mono (by grind)
  · exact fun b => (peek_of_memoryPart (hmem _ _) b).trans
      (peek_put_put_afterStores s _ _ b _ _ hwhi hwlo (ne_add_one s.sp).symm)

end

/-! ## The repeat of a block instruction -/

section
variable (again : Bool) (s : State)

@[simp] theorem bc_repeatBlock : (repeatBlock again s).bc = s.bc := by cases again <;> rfl

@[simp] theorem de_repeatBlock : (repeatBlock again s).de = s.de := by cases again <;> rfl

@[simp] theorem hl_repeatBlock : (repeatBlock again s).hl = s.hl := by cases again <;> rfl

theorem cycles_repeatBlock : (repeatBlock again s).cycles = if again then 21 else 16 := by cases again <;> rfl

theorem pc_repeatBlock_of_again (h : again = true) : (repeatBlock again s).pc = s.pc - 2#16 := by
  subst h
  rfl

/-- F is as the iteration left it, F5 and F3 drawn where it repeats (R505). -/
theorem repeatFlags_repeatBlock : repeatFlags again s.flags (repeatBlock again s).flags := by
  cases again with
  | false => exact rfl
  | true => simp [repeatFlags, repeatBlock_true, State.flags, State.tick]

theorem frame_repeatBlock :
    Frame (.cycles :: .f :: if again then [.pc, .draws] else []) s (repeatBlock again s) := by
  cases again with
  | false => exact (frame_tick s 16).mono (by simp)
  | true =>
    intro x hx
    cases x with
    | cycles | f | pc | draws => simp at hx
    | _ => rfl

end

/-- An iteration that reached `u` and then repeats or ends: beyond what `u` shows, only PC and the draws change. -/
theorem effect_repeatBlock {i : Instr} {s u : State} {changed : List Field} {stores : List (Word × Byte)} {again : Bool}
    {post : State → Prop} (hexec : exec i s = .next (repeatBlock again u))
    (hframe : Frame (if stores.isEmpty then changed else .mem :: changed) s u) (hf : .f ∈ changed)
    (hpeek : ∀ a, u.peek a = afterStores s stores a) (hpost : post (repeatBlock again u)) :
    Effect i s (changed ++ if again then [.pc, .draws] else []) stores (if again then 21 else 16) post := by
  refine ⟨repeatBlock again u, hexec, cycles_repeatBlock again u, ?_, ?_, hpost⟩
  · exact (hframe.trans (frame_repeatBlock again u)).mono (by grind)
  · exact fun a => (peek_of_memoryPart (memoryPart_repeatBlock again u) a).trans (hpeek a)

/-! ## One block load -/

/-- The state after one block load of the byte `v` (R506, R508). -/
def State.blockLoaded (s : State) (dir : Dir) (v : Byte) : State :=
  ((((s.put s.de v).setHl (dir.move s.hl)).setDe (dir.move s.de)).setBc (s.bc - 1#16)).setFlags
    (blockLoadFlags v s.a (s.bc - 1#16) s.flags)

section
variable (s : State) (dir : Dir) (v : Byte)

@[simp] theorem blockLoaded_bc : (s.blockLoaded dir v).bc = s.bc - 1#16 := pair_hi_lo _

@[simp] theorem blockLoaded_de : (s.blockLoaded dir v).de = dir.move s.de := pair_hi_lo _

@[simp] theorem blockLoaded_hl : (s.blockLoaded dir v).hl = dir.move s.hl := pair_hi_lo _

@[simp] theorem blockLoaded_flags : (s.blockLoaded dir v).flags = blockLoadFlags v s.a (s.bc - 1#16) s.flags :=
  Flags.ofByte_toByte _

theorem frame_blockLoaded : Frame [.mem, .b, .c, .d, .e, .h, .l, .f] s (s.blockLoaded dir v) :=
  (((((frame_put s s.de v).trans (frame_setHl _ _)).trans (frame_setDe _ _)).trans (frame_setBc _ _)).trans
    (frame_setFlags _ _)).mono (by simp)

theorem peek_blockLoaded (a : Word) (h : s.writable s.de = true) :
    (s.blockLoaded dir v).peek a = afterStores s [(s.de, v)] a :=
  peek_put_afterStores s s.de a v h

theorem loadRepeats_blockLoaded : loadRepeats (s.blockLoaded dir v) = decide ((s.bc - 1#16).toNat ≠ 0) := by
  rw [loadRepeats, blockLoaded_bc, bne_zero_eq]

end

theorem blockLoad_ok {s : State} {dir : Dir} {v : Byte} (k : State → Result) (hv : Reads s s.hl v)
    (hw : s.writable s.de = true) : blockLoad dir s k = k (s.blockLoaded dir v) := by
  rw [blockLoad, loadByte_ok s _ v _ hv, storeByte_ok s _ v _ hw]
  simp only [State.bc_setBc]
  rfl

theorem exec_blockLoadRow (dir : Dir) (repeats : Bool) (s : State) :
    exec (blockLoadRow dir repeats) s =
      blockLoad dir s fun u => .next (repeatBlock (repeats && loadRepeats u) u) := by
  cases dir <;> cases repeats <;> rfl

/-! ## One block compare -/

/-- The state after one block compare with the byte `v` (R510, R512). -/
def State.blockCompared (s : State) (dir : Dir) (v : Byte) : State :=
  ((s.setHl (dir.move s.hl)).setBc (s.bc - 1#16)).setFlags (blockCompareFlags s.a v (s.bc - 1#16) s.flags)

section
variable (s : State) (dir : Dir) (v : Byte)

@[simp] theorem blockCompared_bc : (s.blockCompared dir v).bc = s.bc - 1#16 := pair_hi_lo _

@[simp] theorem blockCompared_hl : (s.blockCompared dir v).hl = dir.move s.hl := pair_hi_lo _

@[simp] theorem blockCompared_flags :
    (s.blockCompared dir v).flags = blockCompareFlags s.a v (s.bc - 1#16) s.flags :=
  Flags.ofByte_toByte _

theorem frame_blockCompared : Frame [.b, .c, .h, .l, .f] s (s.blockCompared dir v) :=
  (((frame_setHl s _).trans (frame_setBc _ _)).trans (frame_setFlags _ _)).mono (by simp)

/-- Z says that the bytes match (R510, R511). -/
theorem compareRepeats_blockCompared :
    compareRepeats (s.blockCompared dir v) = decide ((s.bc - 1#16).toNat ≠ 0 ∧ s.a ≠ v) := by
  have hz : (blockCompareFlags s.a v (s.bc - 1#16) s.flags).z = decide (s.a = v) :=
    congrArg Flags.z (blockCompareFlags_rule s.a v (s.bc - 1#16) s.flags)
  rw [compareRepeats, blockCompared_bc, blockCompared_flags, hz, bne_zero_eq, ← decide_not, Bool.decide_and]

end

theorem blockCompare_ok {s : State} {dir : Dir} {v : Byte} (k : State → Result) (hv : Reads s s.hl v) :
    blockCompare dir s k = k (s.blockCompared dir v) := by
  rw [blockCompare, loadByte_ok s _ v _ hv]
  simp only [State.bc_setBc]
  rfl

theorem exec_blockCompareRow (dir : Dir) (repeats : Bool) (s : State) :
    exec (blockCompareRow dir repeats) s =
      blockCompare dir s fun u => .next (repeatBlock (repeats && compareRepeats u) u) := by
  cases dir <;> cases repeats <;> rfl

end Sys2Proof.Machine
end

section
/-! The statements of 42_exchange_block.md. -/

namespace Sys2Proof.Machine

/-! ## Exchanges -/

theorem frame_execExAfAf (s : State) :
    Frame [.a, .f, .altA, .altF] s { s with a := s.altA, f := s.altF, altA := s.a, altF := s.f } := by
  intro x hx
  cases x with
  | a | f | altA | altF => simp at hx
  | _ => rfl

theorem frame_execExDeHl (s : State) : Frame [.d, .e, .h, .l] s { s with d := s.h, e := s.l, h := s.d, l := s.e } := by
  intro x hx
  cases x with
  | d | e | h | l => simp at hx
  | _ => rfl

theorem frame_execExx (s : State) :
    Frame [.b, .c, .d, .e, .h, .l, .altB, .altC, .altD, .altE, .altH, .altL] s
      { s with
        b := s.altB, c := s.altC, d := s.altD, e := s.altE, h := s.altH, l := s.altL
        altB := s.b, altC := s.c, altD := s.d, altE := s.e, altH := s.h, altL := s.l } := by
  intro x hx
  cases x with
  | b | c | d | e | h | l | altB | altC | altD | altE | altH | altL => simp at hx
  | _ => rfl

/-- Settles O40: each exchange is one register update with its cycle count. -/
theorem registerExchanges : Obligations.RegisterExchanges := fun s =>
  ⟨effect_tick rfl (frame_execExAfAf s) rfl ⟨rfl, rfl, rfl, rfl⟩, effect_tick rfl (frame_execExDeHl s) rfl ⟨rfl, rfl⟩,
    effect_tick rfl (frame_execExx s) rfl ⟨⟨rfl, rfl, rfl, rfl, rfl, rfl⟩, rfl, rfl, rfl, rfl, rfl, rfl⟩⟩

/-- Settles O41: both forms are one exchange, which differs in the register written last. -/
theorem exchangeWithTopOfStack : Obligations.ExchangeWithTopOfStack := by
  intro s exchanges
  have hexchanges : ∀ {i v changed n post} (keep : Word → State → State), exec i s = exchangeTop s v n keep →
      (∀ w u, Frame changed u (keep w u)) → (∀ w u, (keep w u).memoryPart = u.memoryPart) →
      (∀ w u, post w ((keep w u).tick n)) → exchanges i v changed n post := by
    intro i v changed n post keep hexec hframe hmem hpost
    refine ⟨?_, ?_, ?_, ?_, ?_⟩
    · exact fun lo hi => effect_exchangeTop hexec hframe hmem hpost
    · exact fun e he => hexec.trans (exchangeTop_error_low he)
    · exact fun lo e hlo he => hexec.trans (exchangeTop_error_high hlo he)
    · exact fun lo hi e hlo hhi he => hexec.trans (exchangeTop_writeFails_high hlo hhi he)
    · exact fun lo hi e hlo hhi hwhi he =>
        ⟨_, hexec.trans (exchangeTop_writeFails_low hlo hhi hwhi he), frame_put s _ _,
          fun x => peek_put_afterStores s _ x _ hwhi⟩
  clear_value exchanges
  refine ⟨?_, fun x => ?_⟩
  · exact hexchanges (fun w u => u.setHl w) rfl (fun w u => frame_setHl u w) (fun w u => memoryPart_setHl u w)
      fun w u => State.hl_setHl u w
  · exact hexchanges (fun w u => u.setXy x w) (by cases x <;> rfl) (fun w u => frame_setXy u x w)
      (fun w u => memoryPart_setXy u x w) fun w u => State.xy_setXy u x w

/-! ## Block transfer and block search -/

/-! The two theorems have the names of operations of the model, so they stand in a namespace of their own. -/

namespace Statements

/-- Settles O42: one block load, then the repeat where BC is not 0 after it. -/
theorem blockLoad : Obligations.BlockLoad := by
  intro dir repeats s count again i
  have hexec := exec_blockLoadRow dir repeats s
  refine ⟨?_, ?_, ?_⟩
  · intro v hv hw
    have hnext : exec i s = .next (repeatBlock again (s.blockLoaded dir v)) := by
      rw [hexec, blockLoad_ok _ hv hw, loadRepeats_blockLoaded]
    refine effect_repeatBlock hnext (frame_blockLoaded s dir v) (by simp) (fun a => peek_blockLoaded s dir v a hw)
      ⟨by simp [count], by simp, by simp, pc_repeatBlock_of_again again _, _, blockLoadFlags_rule v s.a count s.flags, ?_⟩
    simpa using repeatFlags_repeatBlock again (s.blockLoaded dir v)
  · exact fun e he => hexec.trans (loadByte_error s _ e _ he)
  · exact fun v e hv he => hexec.trans ((loadByte_ok s _ v _ hv).trans (storeByte_error s _ v e _ he))

/-- Settles O43: one block compare, then the repeat where BC is not 0 after it and the bytes differ. -/
theorem blockCompare : Obligations.BlockCompare := by
  intro dir repeats s count i
  have hexec := exec_blockCompareRow dir repeats s
  refine ⟨?_, ?_⟩
  · intro v hv again
    have hnext : exec i s = .next (repeatBlock again (s.blockCompared dir v)) := by
      rw [hexec, blockCompare_ok _ hv, compareRepeats_blockCompared]
    refine effect_repeatBlock hnext (frame_blockCompared s dir v) (by simp) (fun a => rfl)
      ⟨by simp [count], by simp, pc_repeatBlock_of_again again _, _, blockCompareFlags_rule s.a v count s.flags, ?_⟩
    simpa using repeatFlags_repeatBlock again (s.blockCompared dir v)
  · exact fun e he => hexec.trans (loadByte_error s _ e _ he)

end Statements

end Sys2Proof.Machine
end

section
/-! The overflow of a signed result, for any width, and subtraction as the addition of the complement (43_alu8.md R550 to R552,
45_alu16.md R651, R652, 90_conflicts.md C8). -/

namespace Sys2Proof.Machine

/-! ## Signed values -/

/-- The signed value of a number whose sign bit has this weight. -/
def signedValue (weight v : Nat) : Int := if v < weight then v else v - 2 * weight

/-- The exact result does not fit the width whose sign bit has this weight. -/
def SignedOverflow (weight : Nat) (exact : Int) : Prop := ¬(-(weight : Int) ≤ exact ∧ exact ≤ weight - 1)

theorem toInt_byte_eq (v : Byte) : v.toInt = signedValue 128 v.toNat := by
  rw [BitVec.toInt_eq_toNat_cond, signedValue]
  omega

theorem toInt_word_eq (v : Word) : v.toInt = signedValue 0x8000 v.toNat := by
  rw [BitVec.toInt_eq_toNat_cond, signedValue]
  omega

/-! ## Overflow at any width -/

section
variable {m a b c res : Nat}

theorem signBit_cases (ha : a < 2 * m) : a < m ∧ a / m = 0 ∨ m ≤ a ∧ a / m = 1 := by
  rcases Nat.lt_or_ge a m with hlt | hge
  · exact .inl ⟨hlt, Nat.div_eq_of_lt hlt⟩
  · exact .inr ⟨hge, Nat.div_eq_of_lt_le (by omega) (by omega)⟩

theorem signBit_complement (hb : b < 2 * m) : (2 * m - 1 - b) / m = 1 - b / m := by
  have hcomplement : 2 * m - 1 - b < 2 * m := by omega
  have hsign := signBit_cases hb
  have hsign' := signBit_cases hcomplement
  omega

theorem signedValue_complement (hb : b < 2 * m) : signedValue m (2 * m - 1 - b) = -1 - signedValue m b := by
  rw [signedValue, signedValue]
  omega

/-- The exact sum of the operands fits where they differ in sign; where they share one, it fits unless the sum wraps into the other
sign. -/
theorem addOverflow_iff (ha : a < 2 * m) (hb : b < 2 * m) (hc : c ≤ 1) (hres : res = (a + b + c) % (2 * m)) :
    addOverflow m a b res = true ↔ SignedOverflow m (signedValue m a + signedValue m b + c) := by
  have hlt : res < 2 * m := hres ▸ Nat.mod_lt _ (by omega)
  have hwrap : res = a + b + c ∨ res + 2 * m = a + b + c := by
    rcases Nat.lt_or_ge (a + b + c) (2 * m) with hfits | hwraps
    · exact .inl (hres.trans (Nat.mod_eq_of_lt hfits))
    · rw [Nat.mod_eq_sub_mod hwraps, Nat.mod_eq_of_lt (by omega)] at hres
      omega
  have hsa := signBit_cases ha
  have hsb := signBit_cases hb
  have hsr := signBit_cases hlt
  simp only [addOverflow, SignedOverflow, signedValue, decide_eq_true_eq]
  omega

/-- The complement has the other sign. -/
theorem addOverflow_complement (ha : a < 2 * m) (hb : b < 2 * m) :
    addOverflow m a (2 * m - 1 - b) res = subOverflow m a b res := by
  have hsign : a / m = 1 - b / m ↔ a / m ≠ b / m := by
    have hsa := signBit_cases ha
    have hsb := signBit_cases hb
    omega
  simp only [addOverflow, subOverflow, signBit_complement hb, hsign]

/-- A subtraction overflows where the addition of the complement with the inverted borrow does: both have one exact result. -/
theorem subOverflow_iff (ha : a < 2 * m) (hb : b < 2 * m) (hc : c ≤ 1) (hres : res = (a + 4 * m - b - c) % (2 * m)) :
    subOverflow m a b res = true ↔ SignedOverflow m (signedValue m a - signedValue m b - c) := by
  have hres' : res = (a + (2 * m - 1 - b) + (1 - c)) % (2 * m) := by
    have hdiff : a + 4 * m - b - c = a + (2 * m - 1 - b) + (1 - c) + 2 * m := by omega
    rw [hres, hdiff, Nat.add_mod_right]
  have hexact : signedValue m a + signedValue m (2 * m - 1 - b) + (1 - c : Nat) =
      signedValue m a - signedValue m b - c := by
    rw [signedValue_complement hb]
    omega
  rw [← addOverflow_complement ha hb, addOverflow_iff ha (by omega) (by omega) hres', hexact]

end

/-! ## PV of the four operations -/

theorem Add8Rule.pv_iff {a b res : Byte} {c : Bool} {fl : Flags} (h : Add8Rule a b c res fl) :
    fl.pv = true ↔ SignedOverflow 128 (a.toInt + b.toInt + c.toNat) := by
  obtain ⟨hres, rfl⟩ := h
  rw [toInt_byte_eq, toInt_byte_eq]
  exact addOverflow_iff a.isLt b.isLt c.toNat_le hres

theorem Sub8Rule.pv_iff {a b res : Byte} {c : Bool} {fl : Flags} (h : Sub8Rule a b c res fl) :
    fl.pv = true ↔ SignedOverflow 128 (a.toInt - b.toInt - c.toNat) := by
  obtain ⟨hres, rfl⟩ := h
  rw [toInt_byte_eq, toInt_byte_eq]
  exact subOverflow_iff a.isLt b.isLt c.toNat_le hres

theorem Adc16Rule.pv_iff {a b res : Word} {c : Bool} {fl : Flags} (h : Adc16Rule a b c res fl) :
    fl.pv = true ↔ SignedOverflow 0x8000 (a.toInt + b.toInt + c.toNat) := by
  obtain ⟨hres, rfl⟩ := h
  rw [toInt_word_eq, toInt_word_eq]
  exact addOverflow_iff a.isLt b.isLt c.toNat_le hres

theorem Sbc16Rule.pv_iff {a b res : Word} {c : Bool} {fl : Flags} (h : Sbc16Rule a b c res fl) :
    fl.pv = true ↔ SignedOverflow 0x8000 (a.toInt - b.toInt - c.toNat) := by
  obtain ⟨hres, rfl⟩ := h
  rw [toInt_word_eq, toInt_word_eq]
  exact subOverflow_iff a.isLt b.isLt c.toNat_le hres

/-- Settles O26: each operation follows its rule, whose PV is the overflow of the exact signed result. -/
theorem overflowFlagIsSignedOverflow : Obligations.OverflowFlagIsSignedOverflow :=
  ⟨fun a b c => ⟨(add8_rule a b c).pv_iff, (sub8_rule a b c).pv_iff⟩,
    fun a b c => ⟨(adc16_rule a b c).pv_iff, (sbc16_rule a b c).pv_iff⟩⟩

/-! ## Subtraction is addition of the complement -/

/-- The rule of a subtraction determines the result and the flags. -/
theorem Sub8Rule.sub8_eq {a b res : Byte} {c : Bool} {fl : Flags} (h : Sub8Rule a b c res fl) :
    sub8 a b c = (res, fl) := by
  obtain ⟨hres, hfl⟩ := h
  obtain ⟨hres', hfl'⟩ := sub8_rule a b c
  have hsame : (sub8 a b c).1 = res := BitVec.eq_of_toNat_eq (hres'.trans hres.symm)
  rw [hsame] at hfl'
  exact Prod.ext hsame (hfl'.trans hfl.symm)

/-- The addition of the complement, with C and H inverted and N set, follows the rule of the subtraction. -/
theorem Add8Rule.sub8Rule {a b res : Byte} {c : Bool} {fl : Flags} (h : Add8Rule a (~~~b) (!c) res fl) :
    Sub8Rule a b c res { fl with c := !fl.c, h := !fl.h, n := true } := by
  have hnot : (~~~b).toNat = 2 * 128 - 1 - b.toNat := BitVec.toNat_not
  have hborrow : (!c).toNat = 1 - c.toNat := by cases c <;> rfl
  have hc := c.toNat_le
  have ha := a.isLt
  have hb := b.isLt
  obtain ⟨hres, rfl⟩ := h
  rw [hnot, hborrow] at hres
  refine ⟨by omega, ?_⟩
  rw [hnot, hborrow, addOverflow_complement ha hb]
  simp only [resultFlags, Flags.mk.injEq, true_and, ← decide_not, decide_eq_decide]
  omega

/-- Settles O25: the sum with its flags inverted follows the rule of the subtraction, which determines the result. -/
theorem subtractionIsComplementAddition : Obligations.SubtractionIsComplementAddition := fun a b c =>
  (add8_rule a (~~~b) (!c)).sub8Rule.sub8_eq

end Sys2Proof.Machine
end

section
/-! The statements of 43_alu8.md about instructions: the accumulator operations, and INC and DEC of a byte. -/

namespace Sys2Proof.Machine

/-! ## What a flag update and a cycle count leave -/

@[simp] theorem flags_tick (s : State) (n : Nat) : (s.tick n).flags = s.flags := rfl

@[simp] theorem reg_setFlags (s : State) (fl : Flags) (r : Reg8) : (s.setFlags fl).reg r = s.reg r := rfl

@[simp] theorem half_setFlags (s : State) (fl : Flags) (x : XY) (half : Half) :
    (s.setFlags fl).half x half = s.half x half := rfl

/-! ## Accumulator operations -/

theorem effect_accumulate {i : Instr} {op : AluOp} {s : State} {v : Byte} {n : Nat}
    (hexec : exec i s = accumulate op s v n) :
    Effect i s [.a, .f] [] n fun t => AluRule op s.a v s.flags.c t.a t.flags := by
  refine effect_tick hexec (((frame_setReg s .a _).trans (frame_setFlags _ _)).mono (by simp [Field.ofReg])) rfl ?_
  simpa using alu_rule op s.a v s.flags

theorem loadsFrom_accumulateAt {i : Instr} {op : AluOp} {s : State} {a : Word} {n : Nat}
    (hexec : exec i s = accumulateAt op s a n) :
    LoadsFrom i s a [.a, .f] n fun v t => AluRule op s.a v s.flags.c t.a t.flags := by
  constructor
  · intro v hv
    exact effect_accumulate (hexec.trans (loadByte_ok s a v _ hv))
  · intro e he
    exact hexec.trans (loadByte_error s a e _ he)

/-- Settles O44: each instruction is one accumulator operation on its operand. -/
theorem accumulatorOperations : Obligations.AccumulatorOperations := fun op _ =>
  ⟨fun _ => effect_accumulate (by cases op <;> rfl), fun _ => effect_accumulate (by cases op <;> rfl),
    fun x _ => effect_accumulate (by cases op <;> cases x <;> rfl), loadsFrom_accumulateAt (by cases op <;> rfl),
    fun x _ => loadsFrom_accumulateAt (by cases op <;> cases x <;> rfl)⟩

/-! ## INC and DEC -/

/-- `Inc8` or `Dec8` (R555, R556). -/
def count8 (up : Bool) : Byte → Flags → Byte × Flags := if up then inc8 else dec8

theorem count8_rule (up : Bool) (v : Byte) (fl : Flags) : StepRule up v fl (count8 up v fl).1 (count8 up v fl).2 := by
  cases up with
  | true => exact inc8_rule v fl
  | false => exact dec8_rule v fl

section
variable {i : Instr} {s : State}

theorem effect_countReg {up : Bool} {r : Reg8} (hexec : exec i s = countReg (count8 up) s r) :
    Effect i s [.ofReg r, .f] [] 4 fun t => StepRule up (s.reg r) s.flags (t.reg r) t.flags := by
  refine effect_tick hexec (((frame_setReg s r _).trans (frame_setFlags _ _)).mono (by simp)) (memoryPart_setReg s r _) ?_
  simpa using count8_rule up (s.reg r) s.flags

theorem effect_countHalf {up : Bool} {x : XY} {half : Half} (hexec : exec i s = countHalf (count8 up) s x half) :
    Effect i s [.ofXy x, .f] [] 8 fun t => StepRule up (s.half x half) s.flags (t.half x half) t.flags ∧
      t.half x half.other = s.half x half.other := by
  refine effect_tick hexec (((frame_setHalf s x half _).trans (frame_setFlags _ _)).mono (by simp))
    (memoryPart_setHalf s x half _) ⟨?_, ?_⟩
  · simpa using count8_rule up (s.half x half) s.flags
  · exact half_other_setHalf s x half _

/-- A read-modify-write that sets flags: `keep` is what the instruction does with the byte once it is written (R571). -/
theorem modifies_modifyFlags {a : Word} {f : Byte → Flags → Byte × Flags} {n : Nat} {changed : List Field}
    {keep : Byte → State → State} {post : Byte → Byte → State → Prop}
    (hexec : exec i s = modifyFlags s a f fun res u => .next ((keep res u).tick n))
    (hframe : ∀ res u, Frame changed u (keep res u)) (hmem : ∀ res u, (keep res u).memoryPart = u.memoryPart)
    (hpost : ∀ v (u : State), post v (f v s.flags).1 ((keep (f v s.flags).1 (u.setFlags (f v s.flags).2)).tick n)) :
    Modifies i s a (changed ++ [.f]) n post := by
  refine ⟨?_, ?_, ?_⟩
  · intro v hv hw
    refine ⟨(f v s.flags).1, _, hexec.trans (modifyFlags_ok s a v f _ hv hw), rfl, ?_, ?_, hpost _ _⟩
    · exact ((((frame_put s a _).trans (frame_setFlags _ _)).trans (hframe _ _)).trans (frame_tick _ n)).mono (by grind)
    · exact fun b => (peek_of_memoryPart (hmem _ _) b).trans (peek_put_afterStores s a b _ hw)
  · intro e he
    exact hexec.trans (loadByte_error s a e _ he)
  · intro v e hv he
    exact hexec.trans ((loadByte_ok s a v _ hv).trans (storeByte_error s a _ e _ he))

theorem modifies_count8 {up : Bool} {a : Word} {n : Nat}
    (hexec : exec i s = modifyFlags s a (count8 up) fun _ u => .next (u.tick n)) :
    Modifies i s a [.f] n fun v res t => StepRule up v s.flags res t.flags :=
  modifies_modifyFlags (keep := fun _ u => u) hexec (fun _ => Frame.refl) (fun _ _ => rfl) fun v _ => by
    simpa using count8_rule up v s.flags

end

/-- Settles O45: each instruction is one count of its register, half or byte in memory. -/
theorem incrementAndDecrement8 : Obligations.IncrementAndDecrement8 := fun up _ =>
  ⟨fun _ => effect_countReg (by cases up <;> rfl), fun x _ => effect_countHalf (by cases up <;> cases x <;> rfl),
    modifies_count8 (by cases up <;> rfl), fun x _ => modifies_count8 (by cases up <;> cases x <;> rfl)⟩

end Sys2Proof.Machine
end

section
/-! The statements of 44_general_control.md about instructions: DAA, CPL and NEG, SCF and CCF, and CPU control. -/

namespace Sys2Proof.Machine

/-! ## Frames of the control fields and of the draw counter -/

section
variable (s : State)

theorem frame_halted (v : Bool) : Frame [.halted] s { s with halted := v } := by
  intro x hx
  cases x with
  | halted => exact absurd List.mem_cons_self hx
  | _ => rfl

theorem frame_iffs (v1 v2 : Bool) : Frame [.iff1, .iff2] s { s with iff1 := v1, iff2 := v2 } := by
  intro x hx
  cases x with
  | iff1 | iff2 => simp at hx
  | _ => rfl

theorem frame_im (m : InterruptMode) : Frame [.im] s { s with im := m } := by
  intro x hx
  cases x with
  | im => exact absurd List.mem_cons_self hx
  | _ => rfl

theorem frame_draws (n : Nat) : Frame [.draws] s { s with draws := n } := by
  intro x hx
  cases x with
  | draws => exact absurd List.mem_cons_self hx
  | _ => rfl

end

/-! ## DAA, CPL and NEG -/

section
variable {i : Instr} {s : State} {n : Nat}

/-- An instruction that writes A and F from a result and its flags. -/
theorem effect_setA_setFlags {v : Byte} {fl : Flags} {post : Byte → Flags → Prop}
    (hexec : exec i s = .next (((s.setFlags fl).setReg .a v).tick n)) (hpost : post v fl) :
    Effect i s [.a, .f] [] n fun t => post t.a t.flags := by
  refine effect_tick hexec ((frame_setFlags s fl).trans (frame_setReg _ .a v)) rfl ?_
  have hflags : (((s.setFlags fl).setReg .a v).tick n).flags = fl := State.flags_setFlags s fl
  rw [hflags]
  exact hpost

/-- CPL (R601): the complement, C, S, Z and PV as before. -/
def CplRule (a : Byte) (old : Flags) (res : Byte) (fl : Flags) : Prop :=
  res.toNat = 255 - a.toNat ∧ fl = { old with h := true, n := true, f5 := res.getLsbD 5, f3 := res.getLsbD 3 }

theorem effect_negate (hexec : exec i s = negate s) :
    Effect i s [.a, .f] [] 8 fun t => Sub8Rule 0#8 s.a false t.a t.flags :=
  effect_setA_setFlags hexec (sub8_rule 0#8 s.a false)

end

/-- Settles O46: each instruction writes A and F by its rule. -/
theorem adjustComplementNegate : Obligations.AdjustComplementNegate := fun s =>
  ⟨effect_setA_setFlags rfl (daa_rule s.a s.flags),
    effect_setA_setFlags (post := CplRule s.a s.flags) rfl ⟨BitVec.toNat_not, rfl⟩,
    effect_negate rfl, fun _ => effect_negate rfl⟩

/-! ## SCF and CCF -/

/-- F5 and F3 are as R605 says: 1 where A has the bit, 0 where neither A nor the old F has it, and free otherwise. -/
def MixedF5F3 (s t : State) : Prop :=
  (s.a.getLsbD 5 = true → t.flags.f5 = true) ∧
    (s.a.getLsbD 5 = false → s.flags.f5 = false → t.flags.f5 = false) ∧
    (s.a.getLsbD 3 = true → t.flags.f3 = true) ∧
    (s.a.getLsbD 3 = false → s.flags.f3 = false → t.flags.f3 = false)

theorem mixBit_of_accumulator {accumulator flag draw : Bool} (ha : accumulator = true) :
    mixBit accumulator flag draw = true := by
  rw [mixBit, ha, Bool.true_or]

theorem mixBit_of_neither {accumulator flag draw : Bool} (ha : accumulator = false) (hf : flag = false) :
    mixBit accumulator flag draw = false := by
  rw [mixBit, ha, hf, Bool.false_and, Bool.or_false]

/-- The flags SCF and CCF leave, with the next two draws (R605, R606). -/
def State.carryFlags (s : State) (c h : Bool) : Flags :=
  { s.flags with
    c := c
    h := h
    n := false
    f5 := mixBit (s.a.getLsbD 5) s.flags.f5 (Config.draw1 s.draws)
    f3 := mixBit (s.a.getLsbD 3) s.flags.f3 (Config.draw1 (s.draws + 1)) }

theorem writeCarry_eq (s : State) (c h : Bool) :
    writeCarry s c h = .next ((({ s with draws := s.draws + 2 } : State).setFlags (s.carryFlags c h)).tick 4) := rfl

theorem effect_writeCarry {i : Instr} {s : State} {c h : Bool} (hexec : exec i s = writeCarry s c h) :
    Effect i s [.f, .draws] [] 4 fun t => MixedF5F3 s t ∧
      t.flags = { s.flags with c := c, h := h, n := false, f5 := t.flags.f5, f3 := t.flags.f3 } := by
  refine effect_tick (hexec.trans (writeCarry_eq s c h)) ((frame_draws s _).trans (frame_setFlags _ _)) rfl ?_
  rw [MixedF5F3, flags_tick, State.flags_setFlags]
  exact ⟨⟨mixBit_of_accumulator, mixBit_of_neither, mixBit_of_accumulator, mixBit_of_neither⟩, rfl⟩

/-- Settles O47: both are one operation on C and H, with F5 and F3 mixed from A, F and a draw each. -/
theorem setAndComplementCarry : Obligations.SetAndComplementCarry := fun _ =>
  ⟨effect_writeCarry rfl, effect_writeCarry rfl⟩

/-! ## CPU control -/

section
variable {i j : Instr} {s : State}

/-- An instruction that only takes time. -/
theorem effect_tick_only {n : Nat} (hexec : exec i s = .next (s.tick n)) : Effect i s [] [] n fun _ => True :=
  effect_tick hexec (Frame.refl s) rfl trivial

theorem effect_selectMode {m : InterruptMode} (hexec : exec i s = selectMode s m) :
    Effect i s [.im] [] 8 fun t => t.im = m :=
  effect_tick hexec (frame_im s m) rfl rfl

/-- An IM row and its mirror select one mode. -/
theorem effect_selectMode_rows {m : InterruptMode} (hi : exec i s = selectMode s m) (hj : exec j s = selectMode s m) :
    ∀ k ∈ [i, j], Effect k s [.im] [] 8 fun t => t.im = m := by
  simpa using ⟨effect_selectMode hi, effect_selectMode hj⟩

end

/-- Both values of the draw select a mode that R617 allows. -/
theorem im01_mode : ∀ draw : Bool,
    (if draw then InterruptMode.im1 else .im0) = .im0 ∨ (if draw then InterruptMode.im1 else .im0) = .im1 := by decide

theorem effect_im01 (y : Bool) (s : State) :
    Effect (.im01 y) s [.im, .draws] [] 8 fun t => t.im = .im0 ∨ t.im = .im1 :=
  effect_tick rfl ((frame_draws s (s.draws + 1)).trans (frame_im _ (if Config.draw1 s.draws then .im1 else .im0))) rfl
    (im01_mode (Config.draw1 s.draws))

/-- Settles O48: each instruction is at most one update of the control fields, with its cycle count. -/
theorem cpuControl : Obligations.CpuControl := fun s =>
  ⟨effect_tick_only rfl, effect_tick rfl (frame_halted s true) rfl rfl,
    effect_tick rfl (frame_iffs s false false) rfl ⟨rfl, rfl⟩, effect_tick rfl (frame_iffs s true true) rfl ⟨rfl, rfl⟩, rfl,
    effect_selectMode_rows rfl rfl, effect_selectMode_rows rfl rfl, effect_selectMode_rows rfl rfl,
    fun y => effect_im01 y s, fun _ => effect_tick_only rfl, fun _ => effect_tick_only rfl⟩

end Sys2Proof.Machine
end

section
/-! DAA after an addition or a subtraction of packed BCD numbers (44_general_control.md R600, 43_alu8.md R550, R551). -/

namespace Sys2Proof.Machine

/-! ## Packed BCD -/

/-- A two-digit number as packed BCD. -/
def bcdByte (n : Nat) : Byte := BitVec.ofNat 8 (n / 10 * 16 + n % 10)

theorem toNat_bcdByte {tens ones : Nat} (htens : tens < 10) (hones : ones < 10) :
    (bcdByte (10 * tens + ones)).toNat = 16 * tens + ones := by
  rw [bcdByte, BitVec.toNat_ofNat]
  omega

theorem exists_digits {n : Nat} (hn : n < 100) : ∃ tens ones, tens < 10 ∧ ones < 10 ∧ n = 10 * tens + ones :=
  ⟨n / 10, n % 10, by omega, by omega, by omega⟩

section
variable {p q k : Nat}

/-- One column of a decimal addition: the digit `z`, and the carry. -/
theorem exists_digit_carry (hp : p < 10) (hq : q < 10) (hk : k ≤ 1) :
    ∃ carry z, carry ≤ 1 ∧ z < 10 ∧ p + q + k = 10 * carry + z :=
  ⟨(p + q + k) / 10, (p + q + k) % 10, by omega, by omega, by omega⟩

/-- One column of a decimal subtraction: the digit `z`, and the borrow. -/
theorem exists_digit_borrow (hp : p < 10) (hq : q < 10) (hk : k ≤ 1) :
    ∃ borrow z, borrow ≤ 1 ∧ z < 10 ∧ p + 10 * borrow = q + k + z := by
  rcases Nat.lt_or_ge p (q + k) with hlt | hge
  · exact ⟨1, p + 10 - q - k, by omega, by omega, by omega⟩
  · exact ⟨0, p - q - k, by omega, by omega, by omega⟩

end

/-! ## The correction -/

section
variable {t z1 z0 k1 k0 : Nat}

/-- The hexadecimal sum `t` of two BCD numbers is behind the decimal digits by 6 in each column that carries, so DAA's tests find the
carries and its correction gives the digits. -/
theorem correct_sum (hz1 : z1 < 10) (hz0 : z0 < 10) (hk1 : k1 ≤ 1) (hk0 : k0 ≤ 1)
    (ht : t + 6 * k0 = 160 * k1 + 16 * z1 + z0) :
    (10 * k0 + z0 > 15 ∨ t % 256 % 16 > 9 ↔ k0 = 1) ∧ (t > 255 ∨ t % 256 > 0x99 ↔ k1 = 1) ∧
      (t % 256 + (6 * k0 + 0x60 * k1)) % 256 = 16 * z1 + z0 := by
  obtain ⟨rfl | rfl, rfl | rfl⟩ : (k0 = 0 ∨ k0 = 1) ∧ (k1 = 0 ∨ k1 = 1) := by omega
  all_goals omega

/-- The hexadecimal difference `t`, offset by 512, is ahead of the decimal digits by 6 in each column that borrows; a digit that lends
to the column below is at most 8 unless it borrows itself, which keeps the byte inside DAA's bounds. -/
theorem correct_difference (hz1 : z1 < 10) (hz0 : z0 < 10) (hk1 : k1 ≤ 1) (hk0 : k0 ≤ 1)
    (hminuend : z1 + k0 ≤ 9 + 10 * k1) (ht : t + 160 * k1 = 512 + 16 * z1 + z0 + 6 * k0) :
    (k0 = 1 ∨ t % 256 % 16 > 9 ↔ k0 = 1) ∧ (k1 = 1 ∨ t % 256 > 0x99 ↔ k1 = 1) ∧
      (t % 256 + 256 - (6 * k0 + 0x60 * k1)) % 256 = 16 * z1 + z0 := by
  obtain ⟨rfl | rfl, rfl | rfl⟩ : (k0 = 0 ∨ k0 = 1) ∧ (k1 = 0 ∨ k1 = 1) := by omega
  all_goals omega

end

section
variable {x y : Nat} {c : Bool} {a res : Byte} {fl out : Flags}

/-- DAA by its two conditions, as numbers 0 and 1: 0x06 applies where `low` is 1, 0x60 applies and C is set where `high` is 1. -/
theorem DaaRule.of_conditions {low high : Nat} (h : DaaRule a fl res out) (hlow1 : low ≤ 1) (hhigh1 : high ≤ 1)
    (hlow : fl.h = true ∨ a.toNat % 16 > 9 ↔ low = 1) (hhigh : fl.c = true ∨ a.toNat > 0x99 ↔ high = 1) :
    res.toNat = (if fl.n then a.toNat + 256 - (0x06 * low + 0x60 * high) else a.toNat + (0x06 * low + 0x60 * high)) % 256 ∧
      out.c = decide (high = 1) := by
  obtain ⟨hres, rfl⟩ := h
  have hcorr : (if low = 1 then 0x06 else 0) + (if high = 1 then 0x60 else 0) = 0x06 * low + 0x60 * high := by
    split <;> split <;> omega
  have hc : (fl.c || decide (a.toNat > 0x99)) = decide (high = 1) := by
    rw [Bool.eq_iff_iff]
    simpa using hhigh
  simp only [Bool.or_eq_true, decide_eq_true_eq, hlow, hhigh, hcorr] at hres
  exact ⟨hres, hc⟩

/-- DAA after the sum of two BCD numbers: both are added by decimal columns, and the hexadecimal sum is corrected to them. -/
theorem DaaRule.of_add (hx : x < 100) (hy : y < 100) (hadd : Add8Rule (bcdByte x) (bcdByte y) c a fl)
    (h : DaaRule a fl res out) :
    res = bcdByte ((x + y + c.toNat) % 100) ∧ out.c = decide (100 ≤ x + y + c.toNat) := by
  have hc := c.toNat_le
  obtain ⟨x1, x0, hx1, hx0, rfl⟩ := exists_digits hx
  obtain ⟨y1, y0, hy1, hy0, rfl⟩ := exists_digits hy
  obtain ⟨k0, z0, hk0, hz0, hones⟩ := exists_digit_carry hx0 hy0 hc
  obtain ⟨k1, z1, hk1, hz1, htens⟩ := exists_digit_carry hx1 hy1 hk0
  have hdec : 10 * x1 + x0 + (10 * y1 + y0) + c.toNat = 100 * k1 + (10 * z1 + z0) := by omega
  have hsum : (100 * k1 + (10 * z1 + z0)) % 100 = 10 * z1 + z0 := by omega
  have hcarries : k1 = 1 ↔ 100 ≤ 100 * k1 + (10 * z1 + z0) := by omega
  have hhalf : (16 * x1 + x0) % 16 + (16 * y1 + y0) % 16 + c.toNat = 10 * k0 + z0 := by omega
  obtain ⟨hlow, hhigh, hcorrected⟩ := correct_sum hz1 hz0 hk1 hk0 (t := 16 * x1 + x0 + (16 * y1 + y0) + c.toNat) (by omega)
  obtain ⟨ha, rfl⟩ := hadd
  rw [toNat_bcdByte hx1 hx0, toNat_bcdByte hy1 hy0] at ha
  obtain ⟨hres, hcarry⟩ := h.of_conditions (low := k0) (high := k1) hk0 hk1
    (by simpa only [resultFlags, toNat_bcdByte, hx1, hx0, hy1, hy0, hhalf, ha, decide_eq_true_eq] using hlow)
    (by simpa only [resultFlags, toNat_bcdByte, hx1, hx0, hy1, hy0, ha, decide_eq_true_eq] using hhigh)
  rw [hdec, hsum]
  refine ⟨BitVec.eq_of_toNat_eq ?_, by rw [hcarry, decide_eq_decide, hcarries]⟩
  rw [toNat_bcdByte hz1 hz0, hres, ha]
  exact hcorrected

/-- DAA after the difference of two BCD numbers: both are subtracted by decimal columns, and the hexadecimal difference is corrected
to them. -/
theorem DaaRule.of_sub (hx : x < 100) (hy : y < 100) (hsub : Sub8Rule (bcdByte x) (bcdByte y) c a fl)
    (h : DaaRule a fl res out) :
    res = bcdByte ((x + 200 - y - c.toNat) % 100) ∧ out.c = decide (x < y + c.toNat) := by
  have hc := c.toNat_le
  obtain ⟨x1, x0, hx1, hx0, rfl⟩ := exists_digits hx
  obtain ⟨y1, y0, hy1, hy0, rfl⟩ := exists_digits hy
  obtain ⟨k0, z0, hk0, hz0, hones⟩ := exists_digit_borrow hx0 hy0 hc
  obtain ⟨k1, z1, hk1, hz1, htens⟩ := exists_digit_borrow hx1 hy1 hk0
  have hdif : (10 * x1 + x0 + 200 - (10 * y1 + y0) - c.toNat) % 100 = 10 * z1 + z0 := by omega
  have hhalf : (16 * x1 + x0) % 16 < (16 * y1 + y0) % 16 + c.toNat ↔ k0 = 1 := by omega
  have hborrow : 16 * x1 + x0 < 16 * y1 + y0 + c.toNat ↔ k1 = 1 := by omega
  have hborrows : k1 = 1 ↔ 10 * x1 + x0 < 10 * y1 + y0 + c.toNat := by omega
  obtain ⟨hlow, hhigh, hcorrected⟩ := correct_difference hz1 hz0 hk1 hk0 (by omega)
    (t := 16 * x1 + x0 + 512 - (16 * y1 + y0) - c.toNat) (by omega)
  obtain ⟨ha, rfl⟩ := hsub
  rw [toNat_bcdByte hx1 hx0, toNat_bcdByte hy1 hy0] at ha
  obtain ⟨hres, hcarry⟩ := h.of_conditions (low := k0) (high := k1) hk0 hk1
    (by simpa only [resultFlags, toNat_bcdByte, hx1, hx0, hy1, hy0, hhalf, ha, decide_eq_true_eq] using hlow)
    (by simpa only [resultFlags, toNat_bcdByte, hx1, hx0, hy1, hy0, hborrow, ha, decide_eq_true_eq] using hhigh)
  rw [hdif]
  refine ⟨BitVec.eq_of_toNat_eq ?_, by rw [hcarry, decide_eq_decide, hborrows]⟩
  rw [toNat_bcdByte hz1 hz0, hres, ha]
  exact hcorrected

end

/-- Settles O27: the sum and the difference follow the rules of the addition and the subtraction, and DAA corrects the digits that
carry or borrow in decimal. -/
theorem daaGivesTheDecimalResult : Obligations.DaaGivesTheDecimalResult := fun x y c hx hy =>
  ⟨(daa_rule _ _).of_add hx hy (add8_rule (bcdByte x) (bcdByte y) c),
    (daa_rule _ _).of_sub hx hy (sub8_rule (bcdByte x) (bcdByte y) c)⟩

end Sys2Proof.Machine
end

section
/-! The statement of 45_alu16.md about instructions: 16-bit sums and differences into HL or an index register, and the counts of a
pair or an index register. -/

namespace Sys2Proof.Machine

/-! ## What a flag update and a cycle count leave -/

@[simp] theorem hl_tick (s : State) (n : Nat) : (s.tick n).hl = s.hl := rfl

@[simp] theorem hl_setFlags (s : State) (fl : Flags) : (s.setFlags fl).hl = s.hl := rfl

@[simp] theorem pairOf_tick (s : State) (n : Nat) (rp : RegPair) : (s.tick n).pairOf rp = s.pairOf rp := rfl

@[simp] theorem xy_tick (s : State) (n : Nat) (x : XY) : (s.tick n).xy x = s.xy x := rfl

@[simp] theorem xy_setFlags (s : State) (fl : Flags) (x : XY) : (s.setFlags fl).xy x = s.xy x := rfl

section
variable {i : Instr} {s : State} {x : XY} {rp : RegPair} {v : Word} {fl : Flags} {n : Nat}

/-! ## Sums and differences -/

/-- An instruction that writes HL and F from a result and its flags (R653, R655, R656). -/
theorem effect_setHl_setFlags {post : Word → Flags → Prop}
    (hexec : exec i s = .next (((s.setHl v).setFlags fl).tick n)) (hpost : post v fl) :
    Effect i s [.h, .l, .f] [] n fun t => post t.hl t.flags :=
  effect_tick hexec (((frame_setHl s v).trans (frame_setFlags _ fl)).mono (by simp)) rfl (by simpa using hpost)

/-- An instruction that writes an index register and F from a result and its flags (R654). -/
theorem effect_setXy_setFlags {post : Word → Flags → Prop}
    (hexec : exec i s = .next (((s.setXy x v).setFlags fl).tick n)) (hpost : post v fl) :
    Effect i s [.ofXy x, .f] [] n fun t => post (t.xy x) t.flags :=
  effect_tick hexec (((frame_setXy s x v).trans (frame_setFlags _ fl)).mono (by simp)) (memoryPart_setXy s x v)
    (by simpa using hpost)

/-! ## Counts -/

/-- An instruction that writes a pair and no flag (R657, R659). -/
theorem effect_setPair {m : Nat} (hexec : exec i s = .next ((s.setPair rp v).tick n)) (hv : v.toNat = m) :
    Effect i s (Field.ofPair rp) [] n fun t => (t.pairOf rp).toNat = m :=
  effect_tick hexec (frame_setPair s rp v) (memoryPart_setPair s rp v) (by simpa using hv)

/-- An instruction that writes an index register and no flag (R658, R660). -/
theorem effect_setXy {m : Nat} (hexec : exec i s = .next ((s.setXy x v).tick n)) (hv : v.toNat = m) :
    Effect i s [.ofXy x] [] n fun t => (t.xy x).toNat = m :=
  effect_tick hexec (frame_setXy s x v) (memoryPart_setXy s x v) (by simpa using hv)

end

/-- Counting a word down is adding 0xFFFF modulo 2^16 (R659, R660). -/
theorem toNat_sub_one (v : Word) : (v - 1#16).toNat = (v.toNat + 0xFFFF) % 0x10000 := by
  rw [BitVec.toNat_sub, Nat.add_comm]
  rfl

/-- Settles O49: each instruction writes its register by the rule of its sum or difference, or by one count, with its cycle count. -/
theorem arithmetic16 : Obligations.Arithmetic16 := by
  intro s
  refine ⟨fun rp => ⟨?_, ?_, ?_, ?_, ?_⟩, fun x => ⟨fun rp => ?_, ?_, ?_⟩⟩
  · exact effect_setHl_setFlags rfl (add16_rule s.hl (s.pairOf rp) s.flags)
  · exact effect_setHl_setFlags rfl (adc16_rule s.hl (s.pairOf rp) s.flags.c)
  · exact effect_setHl_setFlags rfl (sbc16_rule s.hl (s.pairOf rp) s.flags.c)
  · exact effect_setPair rfl (BitVec.toNat_add (s.pairOf rp) 1#16)
  · exact effect_setPair rfl (toNat_sub_one (s.pairOf rp))
  · exact effect_setXy_setFlags (by cases x <;> rfl) (add16_rule (s.xy x) (s.xPair x rp) s.flags)
  · exact effect_setXy (by cases x <;> rfl) (BitVec.toNat_add (s.xy x) 1#16)
  · exact effect_setXy (by cases x <;> rfl) (toNat_sub_one (s.xy x))

end Sys2Proof.Machine
end

section
/-! The statements of 46_rotate_shift.md: rotates and shifts of registers and of memory, their copy forms, RLD and RRD. -/

namespace Sys2Proof.Machine

/-! ## What a register write leaves -/

@[simp] theorem flags_setReg (s : State) (r : Reg8) (v : Byte) : (s.setReg r v).flags = s.flags :=
  congrArg Flags.ofByte (State.setReg_f s r v)

/-! ## Registers -/

/-- The four accumulator rotates are one operation (R700 to R703). -/
theorem exec_rotARow {op : RotOp} {i : Instr} (h : rotARow op = some i) (s : State) : exec i s = rotateA op s := by
  cases op <;> cases h <;> rfl

section
variable {i : Instr} {s : State} {op : RotOp}

theorem effect_rotateA (hexec : exec i s = rotateA op s) :
    Effect i s [.a, .f] [] 4 fun t => RotARule op s.a s.flags t.a t.flags := by
  refine effect_tick hexec (((frame_setReg s .a _).trans (frame_setFlags _ _)).mono (by simp [Field.ofReg])) rfl ?_
  simpa using rotA_rule op s.a s.flags

theorem effect_rotateReg {r : Reg8} (hexec : exec i s = rotateReg op s r) :
    Effect i s [.ofReg r, .f] [] 8 fun t => RotRule op (s.reg r) s.flags.c (t.reg r) t.flags := by
  refine effect_tick hexec (((frame_setReg s r _).trans (frame_setFlags _ _)).mono (by simp)) (memoryPart_setReg s r _) ?_
  simpa using rot_rule op (s.reg r) s.flags

end

/-- Settles O50: each instruction is one rotate or shift of its register. -/
theorem rotatesOfRegisters : Obligations.RotatesOfRegisters := fun op s =>
  ⟨fun _ hi => effect_rotateA (exec_rotARow hi s), fun _ => effect_rotateReg (by cases op <;> rfl)⟩

/-! ## Memory -/

section
variable {i : Instr} {s : State}

/-- A read-modify-write by its steps: `f` gives the byte stored, `finish` is what the instruction does with the byte read once the
other is written. -/
theorem modifies_loadStore {a : Word} {f : Byte → Byte} {finish : Byte → State → State} {n : Nat} {changed : List Field}
    {post : Byte → Byte → State → Prop}
    (hexec : exec i s = loadByte s a fun v => storeByte s a (f v) fun u => .next ((finish v u).tick n))
    (hframe : ∀ v u, Frame changed u (finish v u)) (hmem : ∀ v u, (finish v u).memoryPart = u.memoryPart)
    (hpost : ∀ v, post v (f v) ((finish v (s.put a (f v))).tick n)) : Modifies i s a changed n post := by
  refine ⟨?_, ?_, ?_⟩
  · intro v hv hw
    refine ⟨f v, _, hexec.trans ((loadByte_ok s a v _ hv).trans (storeByte_ok s a _ _ hw)), rfl, ?_, ?_, hpost v⟩
    · exact (((frame_put s a _).trans (hframe v _)).trans (frame_tick _ n)).mono (by grind)
    · exact fun b => (peek_of_memoryPart (hmem v _) b).trans (peek_put_afterStores s a b _ hw)
  · intro e he
    exact hexec.trans (loadByte_error s a e _ he)
  · intro v e hv he
    exact hexec.trans ((loadByte_ok s a v _ hv).trans (storeByte_error s a _ e _ he))

theorem modifies_rotateAt {op : RotOp} {a : Word} {n : Nat} (hexec : exec i s = rotateAt op s a n) :
    Modifies i s a [.f] n fun v res t => RotRule op v s.flags.c res t.flags :=
  modifies_modifyFlags (keep := fun _ u => u) hexec (fun _ => Frame.refl) (fun _ _ => rfl) fun v _ => by
    simpa using rot_rule op v s.flags

/-- The copy form: the register takes the byte that was stored (R713). -/
theorem modifies_rotateCopy {op : RotOp} {a : Word} {r : Reg8} (hexec : exec i s = rotateCopy op s a r) :
    Modifies i s a [.f, .ofReg r] 23 fun v res t => RotRule op v s.flags.c res t.flags ∧ t.reg r = res := by
  refine modifies_loadStore (finish := fun v u => (u.setFlags (rot op v s.flags).2).setReg r (rot op v s.flags).1) hexec
    (fun v u => ((frame_setFlags u _).trans (frame_setReg _ r _)).mono (by simp)) (fun v u => memoryPart_setReg _ r _)
    fun v => ⟨?_, by simp⟩
  simpa using rot_rule op v s.flags

end

/-! ## Digits -/

/-- Two digits in their places, as a number. -/
theorem toNat_or_digits {hi lo : Byte} {h l : Nat} (hhi : hi.toNat = h * 16) (hlo : lo.toNat = l) (hl : l < 16) :
    (hi ||| lo).toNat = h * 16 + l := by
  rw [BitVec.toNat_or, hhi, hlo, Nat.mul_comm]
  exact (Nat.two_pow_add_eq_or_of_lt (i := 4) hl h).symm

section
variable (v : Byte)

theorem toNat_lowDigit : (v &&& 0x0F#8).toNat = v.toNat % 16 := Nat.and_two_pow_sub_one_eq_mod v.toNat 4

theorem toNat_shiftRight_four : (v >>> 4).toNat = v.toNat / 16 := Nat.shiftRight_eq_div_pow v.toNat 4

theorem toNat_shiftLeft_four : (v <<< 4).toNat = v.toNat % 16 * 16 := by
  rw [BitVec.toNat_shiftLeft, Nat.shiftLeft_eq]
  omega

theorem toNat_highDigit : (v &&& 0xF0#8).toNat = v.toNat / 16 * 16 := by
  revert v
  apply byte_of_digits
  decide

end

/-! ## RLD and RRD -/

/-- A with this byte as its low digit, and the flags of the new A (R714, R715). -/
def State.withLowDigit (s : State) (low : Byte) : State :=
  let a := (s.a &&& 0xF0#8) ||| low
  (s.setReg .a a).setFlags (inputFlags a s.flags)

theorem frame_withLowDigit (s : State) (low : Byte) : Frame [.a, .f] s (s.withLowDigit low) :=
  ((frame_setReg s .a _).trans (frame_setFlags _ _)).mono (by simp [Field.ofReg])

theorem toNat_a_withLowDigit {s : State} {low : Byte} {l : Nat} (hlow : low.toNat = l) (hl : l < 16) :
    (s.withLowDigit low).a.toNat = s.a.toNat / 16 * 16 + l :=
  toNat_or_digits (toNat_highDigit s.a) hlow hl

theorem flags_withLowDigit (s : State) (low : Byte) :
    ByteFlagsRule (s.withLowDigit low).a s.flags (s.withLowDigit low).flags := by
  rw [State.withLowDigit, State.flags_setFlags]
  exact inputFlags_rule _ s.flags

/-- RLD and RRD by the two bytes they form: `stored` and `low` are those bytes as numbers. -/
theorem modifies_rotateDigit {i : Instr} {s : State} {newByte lowDigit : Byte → Byte} {stored low : Byte → Nat}
    (hexec : exec i s = rotateDigit s newByte lowDigit) (hstored : ∀ v, (newByte v).toNat = stored v)
    (hlow : ∀ v, (lowDigit v).toNat = low v) (hlt : ∀ v, low v < 16) :
    Modifies i s s.hl [.a, .f] 18 fun v res t =>
      res.toNat = stored v ∧ t.a.toNat = s.a.toNat / 16 * 16 + low v ∧ ByteFlagsRule t.a s.flags t.flags :=
  modifies_loadStore (finish := fun v u => u.withLowDigit (lowDigit v)) hexec (fun _ u => frame_withLowDigit u _)
    (fun _ _ => rfl) fun v => ⟨hstored v, toNat_a_withLowDigit (hlow v) (hlt v), flags_withLowDigit _ _⟩

/-- Settles O51: each instruction is one rotate or shift of the byte at its address; RLD and RRD move digits between it and A. -/
theorem rotatesOfMemory : Obligations.RotatesOfMemory := by
  intro s
  refine ⟨fun op => ⟨?_, fun x d => ⟨?_, fun r => ?_⟩⟩, ?_, ?_⟩
  · exact modifies_rotateAt (by cases op <;> rfl)
  · exact modifies_rotateAt (by cases op <;> cases x <;> rfl)
  · exact modifies_rotateCopy (by cases op <;> cases x <;> rfl)
  · exact modifies_rotateDigit rfl
      (fun v => toNat_or_digits (toNat_shiftLeft_four v) (toNat_lowDigit s.a) (Nat.mod_lt _ (by decide)))
      toNat_shiftRight_four fun v => by omega
  · exact modifies_rotateDigit rfl
      (fun v => toNat_or_digits (toNat_shiftLeft_four s.a) (toNat_shiftRight_four v) (by omega))
      toNat_lowDigit fun v => Nat.mod_lt _ (by decide)

end Sys2Proof.Machine
end

section
/-! The statements of 47_bit.md: BIT, and RES and SET with their copy forms. -/

namespace Sys2Proof.Machine

/-! ## BIT -/

section
variable {i : Instr} {s : State} {bit : Fin 8}

/-- An instruction that loads one byte and completes: `keep` is the state it leaves, by the byte read. -/
theorem loadsFrom_loadByte {a : Word} {keep : Byte → State} {n : Nat} {changed : List Field} {post : Byte → State → Prop}
    (hexec : exec i s = loadByte s a fun v => .next ((keep v).tick n)) (hframe : ∀ v, Frame changed s (keep v))
    (hmem : ∀ v, (keep v).memoryPart = s.memoryPart) (hpost : ∀ v, post v ((keep v).tick n)) :
    LoadsFrom i s a changed n post := by
  constructor
  · intro v hv
    exact effect_tick (hexec.trans (loadByte_ok s a v _ hv)) (hframe v) (hmem v) (hpost v)
  · intro e he
    exact hexec.trans (loadByte_error s a e _ he)

theorem effect_bitBR (r : Reg8) :
    Effect (.bitBR bit r) s [.f] [] 8 fun t => BitRule bit (s.reg r) (s.reg r) s.flags t.flags := by
  refine effect_tick rfl (frame_setFlags s (bitTest bit (s.reg r) (s.reg r) s.flags)) rfl ?_
  simpa using bitTest_rule bit (s.reg r) (s.reg r) s.flags

/-- F5 and F3 are those of the draw, whatever it is (R761). -/
theorem loadsFrom_bitBAtHl :
    LoadsFrom (.bitBAtHl bit) s s.hl [.f, .draws] 12 fun v t => ∃ xy, BitRule bit v xy s.flags t.flags := by
  refine loadsFrom_loadByte (keep := fun v => (draw8 s).2.setFlags (bitTest bit v (draw8 s).1 s.flags)) rfl
    (fun _ => (frame_draws s _).trans (frame_setFlags _ _)) (fun _ => rfl) fun v => ⟨(draw8 s).1, ?_⟩
  simpa using bitTest_rule bit v (draw8 s).1 s.flags

theorem loadsFrom_bitTestAt {a : Word} (hexec : exec i s = bitTestAt s bit a) :
    LoadsFrom i s a [.f] 20 fun v t => BitRule bit v (hiByte a) s.flags t.flags := by
  refine loadsFrom_loadByte (keep := fun v => s.setFlags (bitTest bit v (hiByte a) s.flags)) hexec
    (fun _ => frame_setFlags s _) (fun _ => rfl) fun v => ?_
  simpa using bitTest_rule bit v (hiByte a) s.flags

end

/-- Settles O52: each instruction sets F by the test of one bit, and the forms differ in the byte that gives F5 and F3. -/
theorem bitTests : Obligations.BitTests := fun _ _ =>
  ⟨effect_bitBR, loadsFrom_bitBAtHl, fun x _ =>
    ⟨loadsFrom_bitTestAt (by cases x <;> rfl), fun _ => loadsFrom_bitTestAt (by cases x <;> rfl)⟩⟩

/-! ## RES and SET -/

/-- The byte SET or RES leaves (R770, R771). -/
def changeBit (on : Bool) : Fin 8 → Byte → Byte := if on then setBit else resBit

theorem changeBit_rule (on : Bool) (bit : Fin 8) (v : Byte) : BitChangeRule bit on v (changeBit on bit v) := by
  cases on with
  | true => exact setBit_rule bit v
  | false => exact resBit_rule bit v

section
variable {i : Instr} {s : State} {on : Bool} {bit : Fin 8}

theorem effect_changeBit {r : Reg8} (hexec : exec i s = .next ((s.setReg r (changeBit on bit (s.reg r))).tick 8)) :
    Effect i s [.ofReg r] [] 8 fun t => BitChangeRule bit on (s.reg r) (t.reg r) := by
  refine effect_tick hexec (frame_setReg s r _) (memoryPart_setReg s r _) ?_
  simpa using changeBit_rule on bit (s.reg r)

theorem modifies_changeBitAt {a : Word} {n : Nat} (hexec : exec i s = changeBitAt s a (changeBit on bit) n) :
    Modifies i s a [] n fun v res _ => BitChangeRule bit on v res :=
  modifies_loadStore (finish := fun _ u => u) hexec (fun _ => Frame.refl) (fun _ _ => rfl) (changeBit_rule on bit)

/-- The copy form: the register takes the byte that was stored (R772). -/
theorem modifies_changeBitCopy {a : Word} {r : Reg8} (hexec : exec i s = changeBitCopy s a (changeBit on bit) r) :
    Modifies i s a [.ofReg r] 23 fun v res t => BitChangeRule bit on v res ∧ t.reg r = res :=
  modifies_loadStore (finish := fun v u => u.setReg r (changeBit on bit v)) hexec (fun _ u => frame_setReg u r _)
    (fun _ u => memoryPart_setReg u r _) fun v => ⟨changeBit_rule on bit v, by simp⟩

end

/-- Settles O53: each instruction changes one bit of its register or of the byte at its address. -/
theorem bitResetAndSet : Obligations.BitResetAndSet := by
  intro on bit s
  refine ⟨fun r => ?_, ?_, fun x d => ⟨?_, fun r => ?_⟩⟩
  · exact effect_changeBit (by cases on <;> rfl)
  · exact modifies_changeBitAt (by cases on <;> rfl)
  · exact modifies_changeBitAt (by cases on <;> cases x <;> rfl)
  · exact modifies_changeBitCopy (by cases on <;> cases x <;> rfl)

end Sys2Proof.Machine
end

section
/-! The statements of 48_jump_call_return.md. -/

namespace Sys2Proof.Machine

/-! ## Jumps -/

theorem cond_iff (s : State) (cc : Cond) : s.cond cc = true ↔ ConditionHolds cc s.flags := by
  cases cc with
  | nz | nc | po | p => exact Iff.of_eq (Bool.not_eq_true' _)
  | z | c | pe | m => exact Iff.rfl

theorem frame_pc (s : State) (v : Word) : Frame [.pc] s { s with pc := v } := by
  intro x hx
  cases x with
  | pc => exact absurd List.mem_cons_self hx
  | _ => rfl

/-- A relative target is counted in integers, modulo 2^16 (R313, R802). -/
theorem toNat_relTarget (s : State) (d : Byte) :
    ((relTarget s d).toNat : Int) = ((s.pc.toNat : Int) + d.toInt) % 0x10000 := by
  have hd : (sext16 d).toInt = d.toInt := BitVec.toInt_signExtend_of_le (by decide)
  rw [relTarget, BitVec.toNat_add, ← hd, BitVec.toInt_eq_toNat_cond]
  omega

section
variable {i : Instr} {s : State} {v : Word} {n : Nat}

theorem effect_jump {post : State → Prop} (hexec : exec i s = jump s v n) (hpost : post ({ s with pc := v }.tick n)) :
    Effect i s [.pc] [] n post :=
  effect_tick hexec (frame_pc s v) rfl hpost

/-- A conditional form that takes `m` T-states where its condition fails. -/
theorem effect_untaken {cc : Cond} {taken : Result} {m : Nat}
    (hexec : exec i s = if s.cond cc then taken else .next (s.tick m)) (h : ¬ConditionHolds cc s.flags) :
    Effect i s [] [] m fun _ => True :=
  effect_tick_only (hexec.trans (if_neg (mt (cond_iff s cc).1 h)))

theorem exec_taken {cc : Cond} {taken untaken : Result} (hexec : exec i s = if s.cond cc then taken else untaken)
    (h : ConditionHolds cc s.flags) : exec i s = taken :=
  hexec.trans (if_pos ((cond_iff s cc).2 h))

end

/-- DJNZ counts B down and then is a jump, or ends (R806). -/
theorem exec_djnzE (s : State) (d : Byte) :
    exec (.djnzE d) s =
      if s.b ≠ 1#8 then jump (s.setReg .b (s.b - 1#8)) (relTarget s d) 13 else .next ((s.setReg .b (s.b - 1#8)).tick 8) := by
  have hcount : (s.b - 1#8 != 0#8) = true ↔ s.b ≠ 1#8 := by
    rw [bne_iff_ne]
    bv_omega
  exact if_congr hcount rfl rfl

theorem effect_djnzE_taken {s : State} (d : Byte) (h : s.b ≠ 1#8) :
    Effect (.djnzE d) s [.b, .pc] [] 13 fun t =>
      t.b.toNat = (s.b.toNat + 255) % 256 ∧ (t.pc.toNat : Int) = ((s.pc.toNat : Int) + d.toInt) % 0x10000 := by
  refine effect_tick ((exec_djnzE s d).trans (if_pos h))
    (((frame_setReg s .b _).trans (frame_pc _ _)).mono (by simp [Field.ofReg])) rfl ⟨?_, toNat_relTarget s d⟩
  show (s.b - 1#8).toNat = _
  bv_omega

theorem effect_djnzE_untaken {s : State} (d : Byte) (h : s.b = 1#8) :
    Effect (.djnzE d) s [.b] [] 8 fun t => t.b = 0#8 := by
  refine effect_tick ((exec_djnzE s d).trans (if_neg (not_not.2 h))) (frame_setReg s .b _) rfl ?_
  show s.b - 1#8 = 0#8
  rw [h]
  rfl

/-- Settles O54: each instruction is one jump, or only takes time where its condition fails. -/
theorem jumps : Obligations.Jumps := by
  intro s target
  refine ⟨fun nn => effect_jump rfl rfl, fun cc nn => ⟨fun h => ?_, fun h => ?_⟩, fun d => ?_, fun cc d => ⟨fun h => ?_, fun h => ?_⟩,
    effect_jump rfl rfl, fun x => ?_, fun d => ⟨effect_djnzE_taken d, effect_djnzE_untaken d⟩⟩
  · exact effect_jump (exec_taken rfl h) rfl
  · exact effect_untaken rfl h
  · exact effect_jump rfl (toNat_relTarget s d)
  · exact effect_jump (exec_taken rfl h) (toNat_relTarget s d)
  · exact effect_untaken rfl h
  · exact effect_jump (v := s.xy x) (by cases x <;> rfl) rfl

/-! ## Calls, restarts and returns -/

section
variable {i : Instr} {s : State}

/-- A call pushes PC, the address after the instruction, and then jumps (R810, R822). -/
theorem pushes_call {v : Word} {n : Nat} {post : Word → Prop} (hexec : exec i s = call s v n) (hpost : post v) :
    Pushes i s s.pc [.pc] n fun t => post t.pc :=
  pushes_push16 (keep := fun u => { u with pc := v }) hexec (fun u => frame_pc u v) (fun _ => rfl) (fun _ => rfl)
    fun _ => hpost

theorem pops_popPc {n : Nat} (hexec : exec i s = popPc s n) : Pops i s [.pc] n fun v t => t.pc = v :=
  pops_pop16 (keep := fun w u => { u with pc := w }) hexec (fun w u => frame_pc u w) (fun _ _ => rfl) (fun _ _ => rfl)
    fun _ _ => rfl

theorem frame_pc_iff1 (v : Word) (b : Bool) : Frame [.pc, .iff1] s { s with pc := v, iff1 := b } := by
  intro x hx
  cases x with
  | pc | iff1 => simp at hx
  | _ => rfl

/-- The pop leaves IFF2, so what IFF1 takes is the old IFF2 (R817, R818). -/
theorem pops_returnFromInterrupt (hexec : exec i s = returnFromInterrupt s) :
    Pops i s [.pc, .iff1] 14 fun v t => t.pc = v ∧ t.iff1 = s.iff2 :=
  pops_pop16 (keep := fun w u => { u with pc := w, iff1 := s.iff2 }) hexec (fun w _ => frame_pc_iff1 w s.iff2)
    (fun _ _ => rfl) (fun _ _ => rfl) fun _ _ => ⟨rfl, rfl⟩

end

theorem toNat_restartTarget (p : Fin 8) : (restartTarget p).toNat = p.val * 8 := by
  rw [restartTarget, BitVec.toNat_ofNat]
  omega

/-- Settles O55: each instruction is one call or one return, or only takes time where its condition fails. -/
theorem callsAndReturns : Obligations.CallsAndReturns := fun _ =>
  ⟨fun nn => pushes_call (post := (· = nn)) rfl rfl,
    fun _ nn => ⟨fun h => pushes_call (post := (· = nn)) (exec_taken rfl h) rfl, effect_untaken rfl⟩,
    fun p => pushes_call (post := (·.toNat = p.val * 8)) rfl (toNat_restartTarget p), pops_popPc rfl,
    fun _ => ⟨fun h => pops_popPc (exec_taken rfl h), effect_untaken rfl⟩, pops_returnFromInterrupt rfl,
    pops_returnFromInterrupt rfl, fun _ => pops_returnFromInterrupt rfl⟩

end Sys2Proof.Machine
end

section
/-! What reading a port and one iteration of a block input or output do, with the repeat after it (49_io.md R850, R858, R862, R866). -/

namespace Sys2Proof.Machine

/-! ## Ports -/

theorem frame_ioRead (s : State) (port : Word) : Frame [.events, .ioAnswers, .draws] s (ioRead s port).2 := by
  intro x hx
  cases x with
  | events | ioAnswers | draws => simp at hx
  | _ => rfl

theorem frame_ioWrite (s : State) (port : Word) (v : Byte) : Frame [.events] s (ioWrite s port v) := by
  intro x hx
  cases x with
  | events => exact absurd List.mem_cons_self hx
  | _ => rfl

theorem readsPort_ioRead (s : State) (port : Word) : ReadsPort s (ioRead s port).2 port := ⟨rfl, rfl⟩

/-- What comes after the access leaves its event and the queue of answers. -/
theorem ReadsPort.of_frame {s u t : State} {port : Word} {changed : List Field} (h : ReadsPort s u port)
    (hframe : Frame changed u t) (hevents : .events ∉ changed) (hanswers : .ioAnswers ∉ changed) :
    ReadsPort s t port := by
  have hu : t.events = u.events := hframe .events hevents
  have hu' : t.ioAnswers = u.ioAnswers := hframe .ioAnswers hanswers
  rwa [ReadsPort, hu, hu']

/-! ## The repeat of a block I/O instruction -/

section
variable (again : Bool) (s : State)

/-- The draws of H and PV come before those of F5 and F3 (R866). -/
def State.drawHPv (s : State) : State :=
  ({ s with draws := s.draws + 2 } : State).setFlags
    { s.flags with h := Config.draw1 s.draws, pv := Config.draw1 (s.draws + 1) }

@[simp] theorem hl_repeatBlockIo : (repeatBlockIo again s).hl = s.hl := by cases again <;> rfl

@[simp] theorem b_repeatBlockIo : (repeatBlockIo again s).b = s.b := by cases again <;> rfl

@[simp] theorem l_repeatBlockIo : (repeatBlockIo again s).l = s.l := by cases again <;> rfl

theorem cycles_repeatBlockIo : (repeatBlockIo again s).cycles = if again then 21 else 16 := by cases again <;> rfl

theorem pc_repeatBlockIo_of_again (h : again = true) : (repeatBlockIo again s).pc = s.pc - 2#16 := by
  subst h
  rfl

/-- F is as the iteration left it, H, PV, F5 and F3 drawn where it repeats (R866). -/
theorem repeatFlagsIo_repeatBlockIo : repeatFlagsIo again s.flags (repeatBlockIo again s).flags := by
  cases again with
  | false => exact rfl
  | true =>
    have h : repeatFlags true s.drawHPv.flags (repeatBlockIo true s).flags := repeatFlags_repeatBlock true s.drawHPv
    simp only [repeatFlags, repeatFlagsIo, if_true, State.drawHPv, State.flags_setFlags] at h ⊢
    rw [h]

theorem frame_repeatBlockIo :
    Frame (.cycles :: .f :: if again then [.pc, .draws] else []) s (repeatBlockIo again s) := by
  cases again with
  | false => exact (frame_tick s 16).mono (by simp)
  | true =>
    have hdraw : Frame [.f, .draws] s s.drawHPv := (frame_draws s _).trans (frame_setFlags _ _)
    exact (hdraw.trans (frame_repeatBlock true s.drawHPv)).mono (by grind)

end

/-- A block I/O iteration that reached `u` and then repeats or ends: beyond what `u` shows, only PC and the draws change. -/
theorem effect_repeatBlockIo {i : Instr} {s u : State} {changed more : List Field} {stores : List (Word × Byte)} {again : Bool}
    {post : State → Prop} (hexec : exec i s = .next (repeatBlockIo again u))
    (hframe : Frame (if stores.isEmpty then changed else .mem :: changed) s u) (hf : .f ∈ changed)
    (hmore : (if again then [.pc, .draws] else []) ⊆ changed ++ more)
    (hpeek : ∀ a, u.peek a = afterStores s stores a) (hpost : post (repeatBlockIo again u)) :
    Effect i s (changed ++ more) stores (if again then 21 else 16) post := by
  refine ⟨repeatBlockIo again u, hexec, cycles_repeatBlockIo again u, ?_, ?_, hpost⟩
  · exact (hframe.trans (frame_repeatBlockIo again u)).mono (by grind)
  · exact fun a => (peek_of_memoryPart (memoryPart_repeatBlockIo again u) a).trans (hpeek a)

/-! ## One block input or output -/

/-- What both directions of block I/O do after the byte `t` has moved: B counted down, HL moved, F by R866. -/
def State.blockIoMoved (s : State) (dir : Dir) (t : Byte) (k : Nat) : State :=
  (((s.setReg .b (s.b - 1#8)).setHl (dir.move s.hl)).setFlags (blockIoFlags t (s.b - 1#8) k))

section
variable (s : State) (dir : Dir) (t : Byte) (k : Nat)

@[simp] theorem blockIoMoved_b : (s.blockIoMoved dir t k).b = s.b - 1#8 := rfl

@[simp] theorem blockIoMoved_hl : (s.blockIoMoved dir t k).hl = dir.move s.hl := pair_hi_lo _

@[simp] theorem blockIoMoved_flags : (s.blockIoMoved dir t k).flags = blockIoFlags t (s.b - 1#8) k := Flags.ofByte_toByte _

theorem frame_blockIoMoved : Frame [.b, .h, .l, .f] s (s.blockIoMoved dir t k) :=
  (((frame_setReg s .b _).trans (frame_setHl _ _)).trans (frame_setFlags _ _)).mono (by simp [Field.ofReg])

theorem ioRepeats_blockIoMoved : ioRepeats (s.blockIoMoved dir t k) = decide (s.b ≠ 1#8) := by
  rw [ioRepeats, blockIoMoved_b, bne_zero_eq, decide_eq_decide]
  bv_omega

end

theorem toNat_move8_up (v : Byte) : (Dir.up.move8 v).toNat = (v.toNat + 1) % 256 := BitVec.toNat_add v 1#8

theorem toNat_move8_down (v : Byte) : (Dir.down.move8 v).toNat = (v.toNat + 255) % 256 := by
  rw [Dir.move8, BitVec.toNat_sub, Nat.add_comm]
  rfl

/-- The state after one block input of the host's byte (R858, R860). -/
def State.blockInput (s : State) (dir : Dir) : State :=
  ((ioRead s s.bc).2.put s.hl s.ioValue).blockIoMoved dir s.ioValue (s.ioValue.toNat + (dir.move8 s.c).toNat)

/-- The state after one block output of the byte `t`: the port has B after its decrement, and k is formed with the new L (R862,
R864). -/
def State.blockOutput (s : State) (dir : Dir) (t : Byte) : State :=
  (ioWrite s (pair (s.b - 1#8) s.c) t).blockIoMoved dir t (t.toNat + (loByte (dir.move s.hl)).toNat)

theorem ioRepeats_blockInput (s : State) (dir : Dir) : ioRepeats (s.blockInput dir) = decide (s.b ≠ 1#8) :=
  ioRepeats_blockIoMoved ((ioRead s s.bc).2.put s.hl s.ioValue) dir _ _

theorem ioRepeats_blockOutput (s : State) (dir : Dir) (t : Byte) :
    ioRepeats (s.blockOutput dir t) = decide (s.b ≠ 1#8) :=
  ioRepeats_blockIoMoved (ioWrite s (pair (s.b - 1#8) s.c) t) dir t _

theorem blockIn_ok {s : State} {dir : Dir} (k : State → Result) (hw : s.writable s.hl = true) :
    blockIn dir s k = k (s.blockInput dir) := by
  unfold blockIn
  exact storeByte_ok (ioRead s s.bc).2 s.hl s.ioValue _ hw

theorem blockIn_error {s : State} {dir : Dir} {e : AccessError} (k : State → Result) (he : WriteFails s s.hl e) :
    blockIn dir s k = .fault (e.toFault (ioRead s s.bc).2) := by
  unfold blockIn
  exact storeByte_error (ioRead s s.bc).2 s.hl s.ioValue e _ he

theorem blockOut_ok {s : State} {dir : Dir} {t : Byte} (k : State → Result) (ht : Reads s s.hl t) :
    blockOut dir s k = k (s.blockOutput dir t) :=
  loadByte_ok s s.hl t _ ht

theorem exec_blockInRow (dir : Dir) (repeats : Bool) (s : State) :
    exec (blockInRow dir repeats) s = blockIn dir s fun u => .next (repeatBlockIo (repeats && ioRepeats u) u) := by
  cases dir <;> cases repeats <;> rfl

theorem exec_blockOutRow (dir : Dir) (repeats : Bool) (s : State) :
    exec (blockOutRow dir repeats) s = blockOut dir s fun u => .next (repeatBlockIo (repeats && ioRepeats u) u) := by
  cases dir <;> cases repeats <;> rfl

theorem frame_blockInput (s : State) (dir : Dir) :
    Frame [.mem, .b, .h, .l, .f, .events, .ioAnswers, .draws] s (s.blockInput dir) :=
  (((frame_ioRead s s.bc).trans (frame_put _ _ _)).trans (frame_blockIoMoved _ dir _ _)).mono (by simp)

theorem frame_blockOutput (s : State) (dir : Dir) (t : Byte) : Frame [.b, .h, .l, .f, .events] s (s.blockOutput dir t) :=
  (frame_ioWrite s _ t).trans (frame_blockIoMoved _ dir t _)

end Sys2Proof.Machine
end

section
/-! The statements of 49_io.md. -/

namespace Sys2Proof.Machine

/-! ## IN and OUT -/

section
variable {i : Instr} {s : State} {port : Word} {n : Nat}

/-- An instruction that reads a port: `keep` is what it does with the byte. -/
theorem effect_ioRead {keep : State → State} {changed : List Field} {post : State → Prop}
    (hexec : exec i s = .next ((keep (ioRead s port).2).tick n)) (hframe : ∀ u, Frame changed u (keep u))
    (hmem : ∀ u, (keep u).memoryPart = u.memoryPart) (hevents : .events ∉ changed) (hanswers : .ioAnswers ∉ changed)
    (hpost : post ((keep (ioRead s port).2).tick n)) :
    Effect i s (changed ++ [.events, .ioAnswers, .draws]) [] n fun t => ReadsPort s t port ∧ post t := by
  have hport : ReadsPort s (keep (ioRead s port).2) port := (readsPort_ioRead s port).of_frame (hframe _) hevents hanswers
  exact effect_tick hexec ((frame_ioRead s port).trans (hframe _)) ((hmem _).trans rfl) ⟨hport, hpost⟩

theorem effect_ioWrite {v : Byte} (hexec : exec i s = .next ((ioWrite s port v).tick n)) :
    Effect i s [.events] [] n fun t => t.events = s.events ++ [.output port v] :=
  effect_tick hexec (frame_ioWrite s port v) rfl rfl

end

theorem ofReg_ne_events (r : Reg8) : Field.events ∉ [Field.ofReg r, .f] ∧ Field.ioAnswers ∉ [Field.ofReg r, .f] := by
  cases r <;> decide

theorem effect_inRAtC (r : Reg8) (s : State) :
    Effect (.inRAtC r) s [.ofReg r, .f, .events, .ioAnswers, .draws] [] 12 fun t =>
      ReadsPort s t s.bc ∧ t.reg r = s.ioValue ∧ ByteFlagsRule s.ioValue s.flags t.flags := by
  have hflags : ByteFlagsRule s.ioValue s.flags (inputFlags s.ioValue s.flags) := inputFlags_rule s.ioValue s.flags
  refine effect_ioRead (changed := [.ofReg r, .f])
    (keep := fun u => (u.setReg r s.ioValue).setFlags (inputFlags s.ioValue s.flags)) rfl
    (fun u => ((frame_setReg u r _).trans (frame_setFlags _ _)).mono (by simp)) (fun u => memoryPart_setReg u r _)
    (ofReg_ne_events r).1 (ofReg_ne_events r).2 ⟨by simp, by simpa using hflags⟩

/-- OUT_C0_VALUE: as set, else by the variant (R857). -/
theorem outC0Value_eq {p : Params} {v : Byte}
    (h : p.outC0 = some v ∨ p.outC0 = none ∧ v = (if p.cpuVariant = .nmos then 0x00#8 else 0xFF#8)) : outC0Value p = v := by
  rcases h with hset | ⟨hdefault, rfl⟩
  · rw [outC0Value, hset, Option.getD_some]
  · rw [outC0Value, hdefault, Option.getD_none]
    cases p.cpuVariant <;> rfl

/-- Settles O56: each instruction is one port access, and what it does with the byte. -/
theorem inputAndOutput : Obligations.InputAndOutput := by
  intro s
  refine ⟨fun n => ?_, fun r => effect_inRAtC r s, ?_, fun v rest h => ?_, fun n => effect_ioWrite rfl,
    fun r => effect_ioWrite rfl, fun v hv => ?_⟩
  · exact effect_ioRead (changed := [.a]) (keep := fun u => u.setReg .a s.ioValue) rfl (fun u => frame_setReg u .a _)
      (fun _ => rfl) (by decide) (by decide) rfl
  · refine effect_ioRead (changed := [.f]) (keep := fun u => u.setFlags (inputFlags s.ioValue s.flags)) rfl
      (fun u => frame_setFlags u _) (fun _ => rfl) (by decide) (by decide) ?_
    simpa using inputFlags_rule s.ioValue s.flags
  · rw [State.ioValue, h]
  · rw [← outC0Value_eq hv]
    exact effect_ioWrite rfl

/-! ## Block input and output -/

/-- Settles O57: one block input or output, then the repeat where B is not 0 after it. -/
theorem blockInputAndOutput : Obligations.BlockInputAndOutput := by
  intro dir repeats s count again cycles moved input output
  have hmoved (u : State) (t : Byte) {k k' : Nat} (hb : u.b = s.b) (hhl : u.hl = s.hl) (hpc : u.pc = s.pc)
      (hk : k = k') : moved k' t (repeatBlockIo again (u.blockIoMoved dir t k)) := by
    subst hk
    refine ⟨?_, ?_, fun h => ?_, blockIoFlags t count k, blockIoFlags_rule t count k, ?_⟩
    · simp [hb, count]
    · simp [hhl]
    · rw [pc_repeatBlockIo_of_again again _ h]
      exact congrArg (· - 2#16) hpc
    · simpa [hb, count] using repeatFlagsIo_repeatBlockIo again (u.blockIoMoved dir t k)
  refine ⟨fun hw => ?_, fun e he => ?_, fun v hv => ?_, fun e he => ?_⟩
  · have hnext : exec input s = .next (repeatBlockIo again (s.blockInput dir)) := by
      rw [exec_blockInRow, blockIn_ok _ hw, ioRepeats_blockInput]
    refine effect_repeatBlockIo hnext (frame_blockInput s dir) (by simp) (by grind)
      (fun a => peek_put_afterStores (ioRead s s.bc).2 s.hl a s.ioValue hw) ⟨?_, ?_⟩
    · cases again <;> exact readsPort_ioRead s s.bc
    · refine hmoved ((ioRead s s.bc).2.put s.hl s.ioValue) s.ioValue rfl rfl rfl (congrArg (s.ioValue.toNat + ·) ?_)
      cases dir with
      | up => exact toNat_move8_up s.c
      | down => exact toNat_move8_down s.c
  · exact ⟨_, (exec_blockInRow dir repeats s).trans (blockIn_error _ he), frame_ioRead s s.bc, readsPort_ioRead s s.bc⟩
  · have hnext : exec output s = .next (repeatBlockIo again (s.blockOutput dir v)) := by
      rw [exec_blockOutRow, blockOut_ok _ hv, ioRepeats_blockOutput]
    refine effect_repeatBlockIo hnext (frame_blockOutput s dir v) (by simp) (by grind) (fun a => rfl) ⟨?_, ?_⟩
    · cases again <;> rfl
    · rw [l_repeatBlockIo]
      exact hmoved (ioWrite s (pair count s.c) v) v rfl rfl rfl rfl
  · exact (exec_blockOutRow dir repeats s).trans (loadByte_error s _ e _ he)

end Sys2Proof.Machine
end

section
/-! What a step turns out to be, and what an interrupt acceptance and a halted cycle leave (60_exceptions.md R910 to R916, R920). -/

namespace Sys2Proof.Machine

/-! ## The kinds of a step -/

theorem stepKind_haltedCycle (input : HostInput) (s : State) :
    stepKind input s = .haltedCycle ↔ ¬(s.nmiPending = true ∧ s.intBlock ≠ .all) ∧
      ¬(input.intLine = true ∧ s.iff1 = true ∧ s.intBlock = .none) ∧ s.halted = true := by
  unfold stepKind
  split
  · simp_all
  · split
    · simp_all
    · split <;> simp_all

theorem step_nmi {s : State} (hk : stepKind s.nextInput s.beginStep = .nmi) :
    step s = endStep .none false (takeInterrupt { s.beginStep with nmiPending := false } s.iff2 11 fun _ k => k 0x0066#16) := by
  rw [step, hk]
  rfl

theorem step_interrupt {s : State} {v : Byte} (hk : stepKind s.nextInput s.beginStep = .interrupt v) :
    step s = endStep .none false (acceptInt v s.beginStep) := by
  rw [step, hk]

theorem step_haltedCycle {s : State} (hk : stepKind s.nextInput s.beginStep = .haltedCycle) :
    step s = .next { haltedCycle s.beginStep with intBlock := .none, ldAir := false } := by
  rw [step, hk]
  rfl

/-! ## INT in its modes (R913 to R915) -/

theorem acceptInt_im0 {s : State} {v : Byte} (him : s.im = .im0) (hv : v &&& 0xC7#8 = 0xC7#8) :
    acceptInt v s = takeInterrupt (drawAirPv s) false 13 fun _ k => k (zext16 (v &&& 0x38#8)) := by
  simp only [acceptInt, him, if_pos hv]

theorem acceptInt_im0_refused {s : State} {v : Byte} (him : s.im = .im0) (hv : v &&& 0xC7#8 ≠ 0xC7#8) :
    acceptInt v s = .refused (.im0BusByte v) := by
  simp only [acceptInt, him, if_neg hv]

theorem acceptInt_im1 {s : State} (v : Byte) (him : s.im = .im1) :
    acceptInt v s = takeInterrupt (drawAirPv s) false 13 fun _ k => k 0x0038#16 := by
  simp only [acceptInt, him]

theorem acceptInt_im2 {s : State} (v : Byte) (him : s.im = .im2) :
    acceptInt v s = takeInterrupt (drawAirPv s) false 19 fun u k => loadWord u (pair u.i v) k := by
  simp only [acceptInt, him]

/-- The bus bytes that are a restart are 0xC7, 0xCF, ..., 0xFF (R914). -/
theorem isRestart_iff (v : Byte) : v &&& 0xC7#8 = 0xC7#8 ↔ v.toNat % 8 = 7 ∧ 0xC0 ≤ v.toNat := by
  revert v
  apply byte_of_digits
  decide

theorem restart_target (v : Byte) : zext16 (v &&& 0x38#8) = BitVec.ofNat 16 (v.toNat / 8 % 8 * 8) := by
  revert v
  apply byte_of_digits
  decide

/-! ## Before the push -/

/-- `e` is what an acceptance has made of `s` before its push: `changed` may differ, and `entered` holds whatever the push and the end of
the step then do to SP, PC, memory, the cycle count and the hidden bits. -/
structure Entry (s e : State) (changed : List Field) (entered : State → Prop) : Prop where
  frame : Frame (.cycles :: changed) s e
  memoryPart : e.memoryPart = s.memoryPart
  sp : e.sp = s.sp
  pc : e.pc = s.pc
  entered : ∀ sp pc mem cycles intBlock ldAir,
    entered { e with sp := sp, pc := pc, mem := mem, cycles := cycles, intBlock := intBlock, ldAir := ldAir }

theorem Entry.bus {s e : State} {changed : List Field} {entered : State → Prop} (h : Entry s e changed entered) :
    e.bus = s.bus :=
  congrArg (fun part => part.2.1) h.memoryPart

theorem frame_beginStep (s : State) : Frame [.inputs, .nmiPending, .cycles, .events] s s.beginStep := by
  intro x hx
  cases x with
  | inputs | nmiPending | cycles | events => simp at hx
  | _ => rfl

theorem frame_enterInterrupt (s : State) (iff2 : Bool) :
    Frame [.halted, .r, .iff1, .iff2] s (s.enterInterrupt iff2) := by
  intro x hx
  cases x with
  | halted | r | iff1 | iff2 => simp at hx
  | _ => rfl

/-- The draw of an acceptance writes F, and no flag but PV (R913). -/
theorem exists_drawAirPv (s : State) : ∃ f n, drawAirPv s = { s with f := f, draws := n } ∧
    Flags.ofByte f = { s.flags with pv := (Flags.ofByte f).pv } := by
  by_cases h : s.ldAir = true
  · refine ⟨_, _, drawAirPv_of_set s h, ?_⟩
    rw [Flags.ofByte_toByte]
  · exact ⟨_, _, drawAirPv_of_clear s (Bool.eq_false_iff.2 h), rfl⟩

theorem frame_drawAirPv (s : State) : Frame (if s.ldAir then [.f, .draws] else []) s (drawAirPv s) := by
  cases h : s.ldAir with
  | false =>
    rw [drawAirPv_of_clear s h]
    exact Frame.refl s
  | true =>
    rw [drawAirPv_of_set s h]
    exact (frame_draws s _).trans (frame_setFlags _ _)

/-- NMI: IFF2 stays, the latch is cleared (R912). -/
theorem entry_nmi (s : State) :
    Entry s (({ s.beginStep with nmiPending := false } : State).enterInterrupt s.iff2)
      [.halted, .r, .nmiPending, .iff1, .inputs, .events]
      fun t => t.halted = false ∧ t.r = refresh s.r ∧ t.nmiPending = false ∧ t.iff1 = false ∧ t.iff2 = s.iff2 ∧
        t.inputs = s.inputs.tail ∧ t.events = [] where
  frame := by
    intro x hx
    cases x with
    | cycles | halted | r | nmiPending | iff1 | inputs | events => simp at hx
    | _ => rfl
  memoryPart := rfl
  sp := rfl
  pc := rfl
  entered _ _ _ _ _ _ := ⟨rfl, rfl, rfl, rfl, rfl, rfl, rfl⟩

/-- The state in which INT pushes PC. -/
def State.intEntry (s : State) : State := (drawAirPv s.beginStep).enterInterrupt false

/-- The state after that push, in which mode 2 reads its vector. -/
def State.intPushed (s : State) : State := s.intEntry.pushed (drawAirPv s.beginStep).pc

/-- INT: both enables are cleared, PV may be drawn; no NMI edge arrives with it (R913). -/
theorem entry_int {s : State} (hedge : s.nextInput.nmiEdge = false) : Entry s s.intEntry (intChanges s) (IntEntered s) := by
  have hbegin : Frame [.inputs, .cycles, .events] s s.beginStep := by
    intro x hx
    cases x with
    | inputs | cycles | events => simp at hx
    | nmiPending => simp [Field.same, hedge]
    | _ => rfl
  have hframe : Frame (.cycles :: intChanges s) s s.intEntry := by
    refine ((hbegin.trans (frame_drawAirPv _)).trans (frame_enterInterrupt _ false)).mono ?_
    simp only [intChanges, State.beginStep_ldAir]
    grind
  obtain ⟨f, n, hdraw, hflags⟩ := exists_drawAirPv s.beginStep
  rw [State.intEntry, hdraw] at hframe ⊢
  exact ⟨hframe, rfl, rfl, rfl, fun _ _ _ _ _ _ => ⟨rfl, rfl, rfl, rfl, rfl, rfl, hflags⟩⟩

/-! ## The push, and what it leaves -/

/-- The bytes an acceptance pushes (R912, R913). -/
def State.pcStores (s : State) : List (Word × Byte) := [(s.sp - 1#16, hiByte s.pc), (s.sp - 2#16, loByte s.pc)]

/-- The end of a step writes the hidden bits (R300). -/
theorem frame_endStep (s : State) (block : IntBlock) (air : Bool) : Frame [.intBlock, .ldAir] s
    { s with intBlock := block, ldAir := air } := by
  intro x hx
  cases x with
  | intBlock | ldAir => simp at hx
  | _ => rfl

section
variable {s u : State} {keep : Bool} {n : Nat} {target : State → (Word → Result) → Result} {changed : List Field}
  {entered : State → Prop} (hentry : Entry s (u.enterInterrupt keep) changed entered)
include hentry

theorem Entry.pushed_pc : (u.enterInterrupt keep).pushed u.pc = { u.enterInterrupt keep with
    sp := s.sp - 2#16
    mem := (s.mem.set (s.sp - 1#16).toNat (hiByte s.pc)).set (s.sp - 2#16).toNat (loByte s.pc) } := by
  have hsp : u.sp = s.sp := hentry.sp
  have hpc : u.pc = s.pc := hentry.pc
  have hmem : u.mem = s.mem := congrArg Prod.fst hentry.memoryPart
  simp only [State.pushed, State.enterInterrupt, hsp, hpc, hmem]

/-- What the push leaves of the state before the step. -/
theorem Entry.pushed (h1 : s.writable (s.sp - 1#16) = true) (h2 : s.writable (s.sp - 2#16) = true) :
    Frame (.mem :: .cycles :: .sp :: changed) s ((u.enterInterrupt keep).pushed u.pc) ∧
      entered ((u.enterInterrupt keep).pushed u.pc) ∧ ((u.enterInterrupt keep).pushed u.pc).sp = s.sp - 2#16 ∧
      ∀ a, ((u.enterInterrupt keep).pushed u.pc).peek a = afterStores s s.pcStores a := by
  rw [hentry.pushed_pc]
  refine ⟨(hentry.frame.trans (frame_mem_sp _ _ _)).mono (by grind), hentry.entered _ u.pc _ u.cycles u.intBlock u.ldAir, rfl,
    fun a => peek_of_pushed s _ s.pc a rfl hentry.bus h1 h2⟩

section
variable (hstep : step s = endStep .none false (takeInterrupt u keep n target))
include hstep

/-- Once PC is pushed the step is the search for the handler's address, and the end of the step. -/
theorem Entry.step_pushed (h1 : s.writable (s.sp - 1#16) = true) (h2 : s.writable (s.sp - 2#16) = true) :
    step s = endStep .none false (target ((u.enterInterrupt keep).pushed u.pc) fun v =>
      .next ({ (u.enterInterrupt keep).pushed u.pc with pc := v }.tick n)) := by
  have hsp : u.sp = s.sp := hentry.sp
  rw [hstep, takeInterrupt_ok u keep n target]
  · rwa [hsp, writable_congr s u _ hentry.bus]
  · rwa [hsp, writable_congr s u _ hentry.bus]

theorem Entry.stackFaults : AcceptanceStackFaults s changed entered := by
  have hsp : u.sp = s.sp := hentry.sp
  have hpc : u.pc = s.pc := hentry.pc
  have hmem : u.mem = s.mem := congrArg Prod.fst hentry.memoryPart
  have hbus : u.bus = s.bus := hentry.bus
  have hfails {a : Word} {e : AccessError} (he : WriteFails s a e) : WriteFails u a e :=
    writeFails_of_bus hbus.symm he
  refine ⟨fun e he => ?_, fun e h1 he => ?_⟩
  · refine ⟨{ u.enterInterrupt keep with sp := s.sp - 1#16 }, ?_, ?_, rfl, hentry.entered _ _ _ _ _ _⟩
    · rw [hstep, takeInterrupt_error_high u keep n target e (by rw [hsp]; exact hfails he), hsp]
      rfl
    · exact (hentry.frame.trans (frame_sp _ _)).mono (by grind)
  · refine ⟨{ (u.enterInterrupt keep).put (s.sp - 1#16) (hiByte s.pc) with sp := s.sp - 2#16 }, ?_, ?_, rfl,
      hentry.entered _ _ _ _ _ _, fun a => ?_⟩
    · rw [hstep, takeInterrupt_error_low u keep n target e (by rwa [hsp, writable_congr s u _ hentry.bus])
        (by rw [hsp]; exact hfails he), hsp, hpc]
      rfl
    · exact (hentry.frame.trans (frame_mem_sp _ _ _)).mono (by grind)
    · show u.bus.read (u.mem.set (s.sp - 1#16).toNat (hiByte s.pc)) a = _
      rw [hbus, hmem]
      exact peek_put_afterStores s _ a _ h1

/-- An acceptance that finds its handler at `v`. -/
theorem Entry.yields {v : Word} (h1 : s.writable (s.sp - 1#16) = true) (h2 : s.writable (s.sp - 2#16) = true)
    (htarget : ∀ k, target ((u.enterInterrupt keep).pushed u.pc) k = k v) :
    Yields (step s) s ([.sp, .pc, .intBlock, .ldAir] ++ changed) s.pcStores n fun t =>
      entered t ∧ t.sp = s.sp - 2#16 ∧ t.pc = v ∧ t.intBlock = .none ∧ t.ldAir = false := by
  obtain ⟨hframe, -, -, hpeek⟩ := hentry.pushed h1 h2
  have hnext := hentry.step_pushed hstep h1 h2
  rw [htarget] at hnext
  refine ⟨_, hnext, rfl, ?_, hpeek, ?_⟩
  · have hend := ((hframe.trans (frame_pc _ v)).trans (frame_tick _ n)).trans (frame_endStep _ .none false)
    exact hend.mono (by grind [State.pcStores])
  · rw [hentry.pushed_pc]
    exact ⟨hentry.entered _ _ _ _ _ _, rfl, rfl, rfl, rfl⟩

end

end

end Sys2Proof.Machine
end

section
/-! The statements of 60_exceptions.md about a step: the acceptance of NMI and INT, masked requests, the halted cycle. -/

namespace Sys2Proof.Machine

/-! ## NMI -/

/-- Settles O14: the step is the acceptance, whatever INT and the halted state are. -/
theorem nmiAcceptance : Obligations.NmiAcceptance := by
  intro s hnmi hblock changed entered
  have hk : stepKind s.nextInput s.beginStep = .nmi :=
    (stepKind_nmi _ _).2 ⟨by simpa using hnmi, hblock⟩
  exact ⟨fun h1 h2 => (entry_nmi s).yields (step_nmi hk) h1 h2 fun _ => rfl, (entry_nmi s).stackFaults (step_nmi hk)⟩

/-! ## INT -/

/-- A field that did not change may be left out of a frame. -/
theorem Frame.without {changed changed' : List Field} {x : Field} {s t : State} (h : Frame changed s t) (hx : x.same s t)
    (hsub : changed ⊆ x :: changed') : Frame changed' s t := by
  intro y hy
  by_cases hyx : y = x
  · rwa [hyx]
  · exact h y fun hmem => (List.mem_cons.1 (hsub hmem)).elim hyx hy

section
variable {s : State} (hpending : s.nmiPending = false) (hedge : s.nextInput.nmiEdge = false)
  (hline : s.nextInput.intLine = true) (hiff1 : s.iff1 = true) (hblock : s.intBlock = .none)

include hpending hedge hline hiff1 hblock in
theorem step_acceptInt : step s = endStep .none false (acceptInt s.nextInput.busByte s.beginStep) := by
  refine step_interrupt ((stepKind_interrupt _ _ _).2 ⟨?_, hline, hiff1, hblock, rfl⟩)
  simp [hpending, hedge]

include hedge hblock in
/-- INT is accepted where int_block is clear already, so the end of the step changes only the other hidden bit. -/
theorem yields_int {n : Nat} {target : State → (Word → Result) → Result} {v : Word}
    (hstep : step s = endStep .none false (takeInterrupt (drawAirPv s.beginStep) false n target))
    (h1 : s.writable (s.sp - 1#16) = true) (h2 : s.writable (s.sp - 2#16) = true)
    (htarget : ∀ k, target s.intPushed k = k v) :
    Yields (step s) s ([.sp, .pc, .ldAir] ++ intChanges s) s.pcStores n fun t =>
      IntEntered s t ∧ t.sp = s.sp - 2#16 ∧ t.pc = v ∧ t.ldAir = false := by
  obtain ⟨t, hnext, hcycles, hframe, hpeek, hentered, hsp, hpc, hnone, hair⟩ := (entry_int hedge).yields hstep h1 h2 htarget
  exact ⟨t, hnext, hcycles, hframe.without (x := .intBlock) (hnone.trans hblock.symm) (by grind [State.pcStores]), hpeek,
    hentered, hsp, hpc, hair⟩

end

/-- Settles O15: modes 0 and 1 are one acceptance at two addresses, and a byte that is no restart is refused. -/
theorem intAcceptanceInModes0And1 : Obligations.IntAcceptanceInModes0And1 := by
  intro s hpending hedge hline hiff1 hblock bus accepted
  have hstep := step_acceptInt hpending hedge hline hiff1 hblock
  have haccepted {v : Word}
      (h : acceptInt bus s.beginStep = takeInterrupt (drawAirPv s.beginStep) false 13 fun _ k => k v) : accepted v := by
    have htaken := hstep.trans (congrArg (endStep .none false) h)
    exact ⟨fun h1 h2 => yields_int hedge hblock htaken h1 h2 fun _ => rfl, (entry_int hedge).stackFaults htaken⟩
  refine ⟨fun him => ?_, fun him hlow hhigh => ?_, fun him hnone => ?_⟩
  · exact haccepted (acceptInt_im1 bus him)
  · rw [← restart_target]
    exact haccepted (acceptInt_im0 him ((isRestart_iff bus).2 ⟨hlow, hhigh⟩))
  · exact hstep.trans (congrArg (endStep .none false) (acceptInt_im0_refused (s := s.beginStep) him (mt (isRestart_iff bus).1 hnone)))

theorem i_notMem_intChanges (s : State) : Field.i ∉ intChanges s := by
  cases h : s.ldAir <;> simp [intChanges, h]

/-- Settles O16: the vector is read in the state after the push. -/
theorem intAcceptanceInMode2 : Obligations.IntAcceptanceInMode2 := by
  intro s hpending hedge hline hiff1 hblock him v stack pushedOnly
  have hstep := (step_acceptInt hpending hedge hline hiff1 hblock).trans
    (congrArg (endStep .none false) (acceptInt_im2 s.nextInput.busByte him))
  have hentry := entry_int hedge
  refine ⟨fun h1 h2 => ?_, hentry.stackFaults hstep⟩
  obtain ⟨hframe, hentered, hsp, hpeek⟩ : Frame (.mem :: .cycles :: .sp :: intChanges s) s s.intPushed ∧
      IntEntered s s.intPushed ∧ s.intPushed.sp = s.sp - 2#16 ∧ ∀ a, s.intPushed.peek a = afterStores s s.pcStores a :=
    hentry.pushed h1 h2
  have hi : s.intPushed.i = s.i := hframe .i (by simpa using i_notMem_intChanges s)
  have hvector (k : Word → Result) :
      loadWord s.intPushed (pair s.intPushed.i s.nextInput.busByte) k = loadWord s.intPushed v k := by rw [hi]
  have hfault {e : AccessError} (h : ∀ k, loadWord s.intPushed v k = .fault (e.toFault s.intPushed)) : pushedOnly e :=
    ⟨_, (hentry.step_pushed hstep h1 h2).trans (congrArg (endStep .none false) ((hvector _).trans (h _))), hframe, hsp,
      hentered, hpeek⟩
  refine ⟨fun lo hi hlo hhi => ?_, fun e he => ?_, fun lo e hlo he => ?_⟩
  · refine yields_int hedge hblock hstep h1 h2 fun k => (hvector k).trans ?_
    exact loadWord_ok _ v lo hi k ((hpeek v).trans hlo) ((hpeek _).trans hhi)
  · exact hfault fun k => loadWord_error_low _ v e k ((hpeek v).trans he)
  · exact hfault fun k => loadWord_error_high _ v lo e k ((hpeek v).trans hlo) ((hpeek _).trans he)

/-! ## Masked requests -/

theorem step_congr {s t : State} (hbegin : s.beginStep = t.beginStep)
    (hk : stepKind s.nextInput s.beginStep = stepKind t.nextInput t.beginStep) : step s = step t := by
  rw [step, step, hk, hbegin]

/-- In mode 1 an accepted INT does not depend on the bus byte (R913). -/
theorem step_congr_im1 {s t : State} {v w : Byte} (hbegin : s.beginStep = t.beginStep) (him : s.im = .im1)
    (hs : stepKind s.nextInput s.beginStep = .interrupt v) (ht : stepKind t.nextInput t.beginStep = .interrupt w) :
    step s = step t := by
  have hmode : s.beginStep.im = .im1 := him
  rw [step_interrupt hs, step_interrupt ht, ← hbegin, acceptInt_im1 v hmode, acceptInt_im1 w hmode]

/-- The kind of a step reads the INT line only where INT is enabled, and the bus byte only where it is requested (R910, R911). -/
theorem stepKind_congr {x y : HostInput} {u : State}
    (hx : ¬(x.intLine = true ∧ u.iff1 = true ∧ u.intBlock = .none))
    (hy : ¬(y.intLine = true ∧ u.iff1 = true ∧ u.intBlock = .none)) : stepKind x u = stepKind y u := by
  simp only [stepKind, Bool.and_eq_true, beq_iff_eq, and_assoc, hx, hy, if_false]

/-- Settles O17: where no INT is accepted, or an NMI is, neither the line nor the bus byte is read; mode 1 takes INT whatever the bus byte
is. -/
theorem maskedRequestsHaveNoEffect : Obligations.MaskedRequestsHaveNoEffect := by
  intro s x y rest hedge hmasked
  have hbegin : ({ s with inputs := x :: rest } : State).beginStep = ({ s with inputs := y :: rest } : State).beginStep := by
    simp only [State.beginStep, State.nextInput, List.headD_cons, List.tail_cons, hedge]
  by_cases hnmi : (s.nmiPending || x.nmiEdge) = true ∧ s.intBlock ≠ .all
  · refine step_congr hbegin (((stepKind_nmi _ _).2 hnmi).trans ((stepKind_nmi _ _).2 ?_).symm)
    exact hbegin ▸ hnmi
  have hunread (hx : ¬(x.intLine = true ∧ s.iff1 = true ∧ s.intBlock = .none))
      (hy : ¬(y.intLine = true ∧ s.iff1 = true ∧ s.intBlock = .none)) :
      step { s with inputs := x :: rest } = step { s with inputs := y :: rest } :=
    step_congr hbegin (hbegin ▸ stepKind_congr hx hy)
  rcases hmasked with hiff1 | hblock | ⟨hx, hy⟩ | ⟨him, hline⟩ | ⟨hblock, hlatched⟩
  · exact hunread (by simp [hiff1]) (by simp [hiff1])
  · exact hunread (by simp [hblock]) (by simp [hblock])
  · exact hunread (by simp [hx]) (by simp [hy])
  · by_cases hint : x.intLine = true ∧ s.iff1 = true ∧ s.intBlock = .none
    · obtain ⟨hx, hiff1, hblock⟩ := hint
      refine step_congr_im1 (w := y.busByte) hbegin him ((stepKind_interrupt x _ _).2 ⟨hnmi, hx, hiff1, hblock, rfl⟩) ?_
      rw [← hbegin]
      exact (stepKind_interrupt y _ _).2 ⟨hnmi, hline ▸ hx, hiff1, hblock, rfl⟩
    · exact hunread hint (hline ▸ hint)
  · exact absurd ⟨by simpa using hlatched, hblock⟩ hnmi

/-! ## The halted cycle -/

/-- Settles O18: the step is the halted cycle. -/
theorem haltedStep : Obligations.HaltedStep := by
  intro s hhalted hnone
  have hk : stepKind s.nextInput s.beginStep = .haltedCycle := by
    refine (stepKind_haltedCycle _ _).2 ⟨?_, ?_, hhalted⟩
    · simp only [State.beginStep_nmiPending, State.beginStep_intBlock]
      grind
    · simp only [State.beginStep_iff1, State.beginStep_intBlock]
      grind
  refine ⟨_, step_haltedCycle hk, rfl, ?_, fun a => peek_congr s _ a rfl rfl, rfl, rfl, rfl, rfl, rfl, rfl⟩
  have hcycle := ((frame_beginStep s).trans (frame_r _ (refresh s.r))).trans (frame_tick _ 4)
  exact (hcycle.trans (frame_endStep _ .none false)).mono (by simp)

end Sys2Proof.Machine
end

section
/-! What an instruction leaves: the cycle count of a next state, and the bytes and fields that a next state or a fault keeps
(60_exceptions.md R906 to R908, 70_reset_and_hazards.md R970, R971). -/

namespace Sys2Proof.Machine

/-! ## States on the way to a memory access -/

/-- What a fault may have changed: SP, which a push or pop moves, memory, and the record of port accesses (R907). -/
def faultFields : List Field := [.sp, .mem, .events, .ioAnswers, .draws]

/-- `u` is a state an instruction in `s` can leave by a fault, having written to addresses of `ws` only. -/
structure Midway (s : State) (ws : List Word) (u : State) : Prop where
  frame : Frame faultFields s u
  peek : ∀ a, a ∉ ws → u.peek a = s.peek a

/-- The result is a next state that took between 4 and `most` T-states, or a fault that leaves a state midway; either keeps every byte
outside `ws`. -/
inductive Keeps (s : State) (ws : List Word) (most : Nat) : Result → Prop where
  | next {t : State} (hleast : 4 ≤ t.cycles) (hmost : t.cycles ≤ most) (hpeek : ∀ a, a ∉ ws → t.peek a = s.peek a) :
      Keeps s ws most (.next t)
  | fault {e : Fault} (hleft : Midway s ws e.left) : Keeps s ws most (.fault e)

section
variable {s u : State} {ws : List Word} {most : Nat} {a : Word}

theorem Midway.refl : Midway s ws s := ⟨(Frame.refl s).mono (by simp), fun _ _ => rfl⟩

theorem Midway.put (hu : Midway s ws u) (ha : a ∈ ws) (v : Byte) : Midway s ws (u.put a v) where
  frame := (hu.frame.trans (frame_put u a v)).mono (by simp [faultFields])
  peek b hb := (peek_put_of_ne u a b v fun h => hb (h ▸ ha)).trans (hu.peek b hb)

theorem Midway.setSp (hu : Midway s ws u) (v : Word) : Midway s ws { u with sp := v } where
  frame := (hu.frame.trans (frame_sp u v)).mono (by simp [faultFields])
  peek := hu.peek

theorem Midway.ioRead (hu : Midway s ws u) (port : Word) : Midway s ws (ioRead u port).2 where
  frame := (hu.frame.trans (frame_ioRead u port)).mono (by simp [faultFields])
  peek := hu.peek

/-! ## The end of an instruction, and one access -/

theorem Midway.keeps_next {t : State} (hu : Midway s ws u) (hmem : t.memoryPart = u.memoryPart) (hleast : 4 ≤ t.cycles)
    (hmost : t.cycles ≤ most) : Keeps s ws most (.next t) :=
  .next hleast hmost fun a ha => (peek_of_memoryPart hmem a).trans (hu.peek a ha)

theorem Midway.keeps_tick {t : State} {n : Nat} (hu : Midway s ws u) (hn : 4 ≤ n ∧ n ≤ most)
    (hmem : t.memoryPart = u.memoryPart) : Keeps s ws most (.next (t.tick n)) :=
  hu.keeps_next hmem hn.1 hn.2

theorem Midway.keeps_fault (hu : Midway s ws u) (err : AccessError) : Keeps s ws most (.fault (err.toFault u)) :=
  .fault (by rwa [left_toFault])

theorem Midway.keeps_loadByte {k : Byte → Result} (hu : Midway s ws u) (hk : ∀ v, Keeps s ws most (k v)) :
    Keeps s ws most (loadByte u a k) := by
  rcases loadByte_cases u a k with ⟨v, -, h⟩ | ⟨err, -, h⟩ <;> rw [h]
  · exact hk v
  · exact hu.keeps_fault err

theorem Midway.keeps_storeByte {v : Byte} {k : State → Result} (hu : Midway s ws u) (ha : a ∈ ws)
    (hk : Midway s ws (u.put a v) → Keeps s ws most (k (u.put a v))) : Keeps s ws most (storeByte u a v k) := by
  rcases storeByte_cases u a v k with ⟨-, h⟩ | ⟨err, -, -, h⟩ <;> rw [h]
  · exact hk (hu.put ha v)
  · exact hu.keeps_fault err

theorem keeps_ite {c : Prop} [Decidable c] {res res' : Result} (h : Keeps s ws most res) (h' : Keeps s ws most res') :
    Keeps s ws most (if c then res else res') := by
  split
  · exact h
  · exact h'

theorem Keeps.mono {most' : Nat} {res : Result} (h : Keeps s ws most res) (hle : most ≤ most') : Keeps s ws most' res := by
  cases h with
  | next hleast hmost hpeek => exact .next hleast (hmost.trans hle) hpeek
  | fault hleft => exact .fault hleft

/-- The prefix adds its four T-states (R323, R971). -/
theorem Keeps.addPrefixCycles {res : Result} (h : Keeps s ws most res) : Keeps s ws (most + 4) (addPrefixCycles res) := by
  cases h with
  | next hleast hmost hpeek => exact .next (Nat.le_add_right_of_le hleast) (Nat.add_le_add_right hmost 4) hpeek
  | fault hleft => exact .fault hleft

end

/-! ## The families of instructions -/

section
variable (s : State) (a v : Word) {n most : Nat}

theorem keeps_tick {ws : List Word} {t : State} (hn : 4 ≤ n ∧ n ≤ most) (hmem : t.memoryPart = s.memoryPart) :
    Keeps s ws most (.next (t.tick n)) :=
  Midway.refl.keeps_tick hn hmem

theorem keeps_load {ws : List Word} {keep : Byte → State} (hn : 4 ≤ n ∧ n ≤ most) (hmem : ∀ w, (keep w).memoryPart = s.memoryPart) :
    Keeps s ws most (loadByte s a fun w => .next ((keep w).tick n)) :=
  Midway.refl.keeps_loadByte fun w => keeps_tick s hn (hmem w)

theorem keeps_storeAt (w : Byte) (hn : 4 ≤ n ∧ n ≤ most) : Keeps s [a] most (storeAt s a w n) :=
  Midway.refl.keeps_storeByte List.mem_cons_self fun ht => ht.keeps_tick hn rfl

/-- A read-modify-write of one byte: `finish` is what the instruction does once the new byte is written. -/
theorem keeps_loadStore {f : Byte → Byte} {finish : Byte → State → State} (hn : 4 ≤ n ∧ n ≤ most)
    (hmem : ∀ w u, (finish w u).memoryPart = u.memoryPart) :
    Keeps s [a] most (loadByte s a fun w => storeByte s a (f w) fun u => .next ((finish w u).tick n)) :=
  Midway.refl.keeps_loadByte fun w =>
    Midway.refl.keeps_storeByte List.mem_cons_self fun hu => hu.keeps_tick hn (hmem w _)

/-- INC, DEC, the rotates and the shifts of a byte in memory. -/
theorem keeps_modifyFlags_tick (f : Byte → Flags → Byte × Flags) (hn : 4 ≤ n ∧ n ≤ most) :
    Keeps s [a] most (modifyFlags s a f fun _ u => .next (u.tick n)) :=
  keeps_loadStore s a (finish := fun w u => u.setFlags (f w s.flags).2) hn fun _ _ => rfl

theorem keeps_rotateCopy (op : RotOp) (r : Reg8) : Keeps s [a] 23 (rotateCopy op s a r) :=
  keeps_loadStore s a (finish := fun w u => (u.setFlags (rot op w s.flags).2).setReg r (rot op w s.flags).1) (by decide)
    fun _ _ => memoryPart_setReg _ r _

theorem keeps_changeBitAt (change : Byte → Byte) (hn : 4 ≤ n ∧ n ≤ most) : Keeps s [a] most (changeBitAt s a change n) :=
  keeps_loadStore s a (finish := fun _ u => u) hn fun _ _ => rfl

theorem keeps_changeBitCopy (change : Byte → Byte) (r : Reg8) : Keeps s [a] 23 (changeBitCopy s a change r) :=
  keeps_loadStore s a (finish := fun w u => u.setReg r (change w)) (by decide) fun _ u => memoryPart_setReg u r _

theorem keeps_rotateDigit (newByte lowDigit : Byte → Byte) : Keeps s [s.hl] 23 (rotateDigit s newByte lowDigit) :=
  keeps_loadStore s s.hl (finish := fun w u => u.withLowDigit (lowDigit w)) (by decide) fun _ _ => rfl

theorem keeps_loadWord_tick {ws : List Word} {keep : Word → State} (hn : 4 ≤ n ∧ n ≤ most)
    (hmem : ∀ w, (keep w).memoryPart = s.memoryPart) :
    Keeps s ws most (loadWord s a fun w => .next ((keep w).tick n)) :=
  Midway.refl.keeps_loadByte fun _ => keeps_load s _ hn fun _ => hmem _

theorem keeps_storeWord_tick (hn : 4 ≤ n ∧ n ≤ most) :
    Keeps s [a, a + 1#16] most (storeWord s a v fun u => .next (u.tick n)) :=
  Midway.refl.keeps_storeByte (by simp) fun ht => ht.keeps_storeByte (by simp) fun hu => hu.keeps_tick hn rfl

/-- SP is moved before each byte is stored (41_load16.md R470). -/
theorem keeps_push16 {keep : State → State} (hn : 4 ≤ n ∧ n ≤ most) (hmem : ∀ u, (keep u).memoryPart = u.memoryPart) :
    Keeps s [s.sp - 1#16, s.sp - 2#16] most (push16 s v fun u => .next ((keep u).tick n)) := by
  unfold push16
  refine (Midway.refl.setSp (s.sp - 1#16)).keeps_storeByte (by simp) fun ht => ?_
  refine (ht.setSp (s.sp - 1#16 - 1#16)).keeps_storeByte ?_ fun hu => hu.keeps_tick hn (hmem _)
  simp [State.put, sub_one_sub_one]

theorem keeps_push16_tick (hn : 4 ≤ n ∧ n ≤ most) :
    Keeps s [s.sp - 1#16, s.sp - 2#16] most (push16 s v fun u => .next (u.tick n)) :=
  keeps_push16 s v (keep := id) hn fun _ => rfl

theorem keeps_call (hn : 4 ≤ n ∧ n ≤ most) : Keeps s [s.sp - 1#16, s.sp - 2#16] most (call s v n) :=
  keeps_push16 s s.pc (keep := fun u => { u with pc := v }) hn fun _ => rfl

theorem keeps_pop16_tick {ws : List Word} {keep : Word → State → State} (hn : 4 ≤ n ∧ n ≤ most)
    (hmem : ∀ w u, (keep w u).memoryPart = u.memoryPart) :
    Keeps s ws most (pop16 s fun w u => .next ((keep w u).tick n)) :=
  Midway.refl.keeps_loadByte fun _ =>
    (Midway.refl.setSp (s.sp + 1#16)).keeps_loadByte fun _ => keeps_tick s hn (hmem _ _)

theorem keeps_popPc {ws : List Word} (hn : 4 ≤ n ∧ n ≤ most) : Keeps s ws most (popPc s n) :=
  keeps_pop16_tick s (keep := fun w u => { u with pc := w }) hn fun _ _ => rfl

theorem keeps_returnFromInterrupt {ws : List Word} : Keeps s ws 23 (returnFromInterrupt s) :=
  keeps_pop16_tick s (keep := fun w u => { u with pc := w, iff1 := u.iff2 }) (by decide) fun _ _ => rfl

theorem keeps_exchangeTop {keep : Word → State → State} (hn : 4 ≤ n ∧ n ≤ most)
    (hmem : ∀ w u, (keep w u).memoryPart = u.memoryPart) :
    Keeps s [s.sp, s.sp + 1#16] most (exchangeTop s v n keep) := by
  unfold exchangeTop
  refine Midway.refl.keeps_loadByte fun _ => Midway.refl.keeps_loadByte fun _ => ?_
  refine Midway.refl.keeps_storeByte (by simp) fun ht => ht.keeps_storeByte ?_ fun hu => hu.keeps_tick hn (hmem _ _)
  exact List.mem_cons_self (a := s.sp)

section
variable (dir : Dir) (again : State → Bool)

theorem keeps_repeatBlock {ws : List Word} {u : State} {b : Bool} (hu : Midway s ws u) {t : State}
    (hmem : t.memoryPart = u.memoryPart) : Keeps s ws 23 (.next (repeatBlock b t)) :=
  hu.keeps_next ((memoryPart_repeatBlock b t).trans hmem) (by rw [cycles_repeatBlock]; split <;> decide)
    (by rw [cycles_repeatBlock]; split <;> decide)

theorem keeps_repeatBlockIo {ws : List Word} {u : State} {b : Bool} (hu : Midway s ws u) {t : State}
    (hmem : t.memoryPart = u.memoryPart) : Keeps s ws 23 (.next (repeatBlockIo b t)) :=
  hu.keeps_next ((memoryPart_repeatBlockIo b t).trans hmem) (by rw [cycles_repeatBlockIo]; split <;> decide)
    (by rw [cycles_repeatBlockIo]; split <;> decide)

theorem keeps_blockLoad : Keeps s [s.de] 23 (blockLoad dir s fun u => .next (repeatBlock (again u) u)) :=
  Midway.refl.keeps_loadByte fun _ => Midway.refl.keeps_storeByte List.mem_cons_self fun hu => keeps_repeatBlock s hu rfl

theorem keeps_blockCompare {ws : List Word} : Keeps s ws 23 (blockCompare dir s fun u => .next (repeatBlock (again u) u)) :=
  Midway.refl.keeps_loadByte fun _ => keeps_repeatBlock s Midway.refl rfl

theorem keeps_blockIn : Keeps s [s.hl] 23 (blockIn dir s fun u => .next (repeatBlockIo (again u) u)) := by
  unfold blockIn
  exact (Midway.refl.ioRead s.bc).keeps_storeByte (List.mem_cons_self (a := s.hl)) fun hu => keeps_repeatBlockIo s hu rfl

theorem keeps_blockOut {ws : List Word} : Keeps s ws 23 (blockOut dir s fun u => .next (repeatBlockIo (again u) u)) :=
  Midway.refl.keeps_loadByte fun _ => keeps_repeatBlockIo s Midway.refl rfl

end

end

/-- A conditional call: where it is not taken it writes nothing (48_jump_call_return.md R811). -/
theorem keeps_callCcNn (cc : Cond) (nn : Word) (s : State) :
    Keeps s (writesBase (.callCcNn cc nn) s) 19 (execCallCcNn cc nn s) := by
  change Keeps s (if s.cond cc then [s.sp - 1#16, s.sp - 2#16] else []) 19
    (if s.cond cc then call s nn 17 else .next (s.tick 10))
  split
  · exact keeps_call s nn (by decide)
  · exact keeps_tick s (by decide) rfl

/-! ## Instructions -/

/-- An unprefixed instruction takes at most 19 T-states, which leaves room for the 4 of a prefix. -/
theorem keeps_execUnprefixed (i : Instr) (s : State) : Keeps s (writesBase i s) 19 (execUnprefixed i s) := by
  cases i with
  | nop | addHlRp | rlca | rrca | rla | rra | daa | cpl | scf | ccf | exAfAf | exx | jpHl | ldSpHl | exDeHl | di | ei | halt
  | jrE | jpNn | outAtNA | inAAtN | addAS | addAN | adcAS | adcAN | subS | subN | sbcAS | sbcAN | andS | andN | xorS | xorN
  | orS | orN | cpS | cpN =>
    exact keeps_tick s (by decide) rfl
  | ldRpNn | incRp | decRp | incR | decR | ldRN | ldRS => exact keeps_tick s (by decide) (by simp)
  | jpCcNn | jrCcE | djnzE => exact keeps_ite (keeps_tick s (by decide) rfl) (keeps_tick s (by decide) rfl)
  | addAAtHl | adcAAtHl | subAtHl | sbcAAtHl | andAtHl | xorAtHl | orAtHl | cpAtHl =>
    exact keeps_load s _ (by decide) fun _ => rfl
  | ldRAtHl | ldAAtBc | ldAAtDe | ldAAtNn => exact keeps_load s _ (by decide) fun _ => memoryPart_setReg s _ _
  | ldAtBcA | ldAtDeA | ldAtNnA | ldAtHlN | ldAtHlS => exact keeps_storeAt s _ _ (by decide)
  | incAtHl | decAtHl => exact keeps_modifyFlags_tick s _ _ (by decide)
  | ldHlAtNn => exact keeps_loadWord_tick s _ (by decide) (memoryPart_setHl s)
  | ldAtNnHl => exact keeps_storeWord_tick s _ _ (by decide)
  | exAtSpHl => exact keeps_exchangeTop s _ (by decide) fun w u => memoryPart_setHl u w
  | pushRp2 => exact keeps_push16_tick s _ (by decide)
  | callNn | rstP => exact keeps_call s _ (by decide)
  | callCcNn cc nn => exact keeps_callCcNn cc nn s
  | popRp2 rp => exact keeps_pop16_tick s (by decide) fun w u => memoryPart_setStackPair u rp w
  | ret => exact keeps_popPc s (by decide)
  | retCc => exact keeps_ite (keeps_popPc s (by decide)) (keeps_tick s (by decide) rfl)
  | _ => exact .fault Midway.refl

/-- A row of the unprefixed table means by itself what it means behind a DD or FD. -/
theorem keeps_exec_of_base {i : Instr} {s : State} (hexec : exec i s = execUnprefixed i s)
    (hwrites : writes i s = writesBase i s) : Keeps s (writes i s) 23 (exec i s) := by
  rw [hexec, hwrites]
  exact (keeps_execUnprefixed i s).mono (by decide)

/-- What every instruction leaves. -/
theorem keeps_exec (i : Instr) (s : State) (hrow : i.isPrefixRow = false) : Keeps s (writes i s) 23 (exec i s) := by
  cases i with
  | prefixCb | prefixEd | prefixDd | prefixFd | prefixDdCb | prefixFdCb => cases hrow
  | ddUnprefixed inner | fdUnprefixed inner => exact (keeps_execUnprefixed inner s).addPrefixCycles
  | ignoredDd | ignoredFd | im0 | im0Mirror | im1 | im1Mirror | im2 | im2Mirror | im01 | nopEd7 | nopEd | ldIA | ldRA | ldAI
  | ldAR | neg | negMirror | inFAtC | outAtCR | outAtC0 | adcHlRp | sbcHlRp | ldSpIx | ldSpIy | jpIx | jpIy | bitBR
  | addIxRp | addIyRp | incIx | incIy | decIx | decIy | ldIxNn | ldIyNn
  | addAIxHalf | addAIyHalf | adcAIxHalf | adcAIyHalf | subIxHalf | subIyHalf | sbcAIxHalf | sbcAIyHalf | andIxHalf
  | andIyHalf | xorIxHalf | xorIyHalf | orIxHalf | orIyHalf | cpIxHalf | cpIyHalf =>
    exact keeps_tick s (by decide) rfl
  | resBR | setBR | ldRSIxHalf | ldRSIyHalf | ldIxHalfN | ldIyHalfN | incIxHalf | incIyHalf | decIxHalf | decIyHalf
  | rlcR | rrcR | rlR | rrR | slaR | sraR | sllR | srlR =>
    exact keeps_tick s (by decide) (by simp)
  | inRAtC r => exact keeps_tick s (by decide) (memoryPart_setReg (ioRead s s.bc).2 r _)
  | addAAtIxd | addAAtIyd | adcAAtIxd | adcAAtIyd | subAtIxd | subAtIyd | sbcAAtIxd | sbcAAtIyd | andAtIxd | andAtIyd
  | xorAtIxd | xorAtIyd | orAtIxd | orAtIyd | cpAtIxd | cpAtIyd | bitBAtHl | bitBAtIxd | bitBAtIyd | bitBAtIxdMirror
  | bitBAtIydMirror =>
    exact keeps_load s _ (by decide) fun _ => rfl
  | ldRAtIxd | ldRAtIyd => exact keeps_load s _ (by decide) fun _ => memoryPart_setReg s _ _
  | ldAtIxdS | ldAtIydS | ldAtIxdN | ldAtIydN => exact keeps_storeAt s _ _ (by decide)
  | rlcAtHl | rrcAtHl | rlAtHl | rrAtHl | slaAtHl | sraAtHl | sllAtHl | srlAtHl | rlcAtIxd | rlcAtIyd | rrcAtIxd | rrcAtIyd
  | rlAtIxd | rlAtIyd | rrAtIxd | rrAtIyd | slaAtIxd | slaAtIyd | sraAtIxd | sraAtIyd | sllAtIxd | sllAtIyd | srlAtIxd
  | srlAtIyd | incAtIxd | incAtIyd | decAtIxd | decAtIyd =>
    exact keeps_modifyFlags_tick s _ _ (by decide)
  | ldRRlcAtIxd | ldRRlcAtIyd | ldRRrcAtIxd | ldRRrcAtIyd | ldRRlAtIxd | ldRRlAtIyd | ldRRrAtIxd | ldRRrAtIyd | ldRSlaAtIxd
  | ldRSlaAtIyd | ldRSraAtIxd | ldRSraAtIyd | ldRSllAtIxd | ldRSllAtIyd | ldRSrlAtIxd | ldRSrlAtIyd =>
    exact keeps_rotateCopy s _ _ _
  | rld | rrd => exact keeps_rotateDigit s _ _
  | resBAtHl | setBAtHl | resBAtIxd | resBAtIyd | setBAtIxd | setBAtIyd => exact keeps_changeBitAt s _ _ (by decide)
  | ldRResBAtIxd | ldRResBAtIyd | ldRSetBAtIxd | ldRSetBAtIyd => exact keeps_changeBitCopy s _ _ _
  | ldRpAtNn rp => exact keeps_loadWord_tick s _ (by decide) (memoryPart_setPair s rp)
  | ldHlAtNnEd => exact keeps_loadWord_tick s _ (by decide) (memoryPart_setHl s)
  | ldIxAtNn => exact keeps_loadWord_tick s _ (by decide) (memoryPart_setXy s .ix)
  | ldIyAtNn => exact keeps_loadWord_tick s _ (by decide) (memoryPart_setXy s .iy)
  | ldAtNnRp | ldAtNnHlEd | ldAtNnIx | ldAtNnIy => exact keeps_storeWord_tick s _ _ (by decide)
  | pushIx | pushIy => exact keeps_push16_tick s _ (by decide)
  | popIx => exact keeps_pop16_tick s (by decide) fun w u => memoryPart_setXy u .ix w
  | popIy => exact keeps_pop16_tick s (by decide) fun w u => memoryPart_setXy u .iy w
  | reti | retn | retnMirror => exact keeps_returnFromInterrupt s
  | exAtSpIx => exact keeps_exchangeTop s _ (by decide) fun w u => memoryPart_setXy u .ix w
  | exAtSpIy => exact keeps_exchangeTop s _ (by decide) fun w u => memoryPart_setXy u .iy w
  | ldi | ldd => exact keeps_blockLoad s _ fun _ => false
  | ldir | lddr => exact keeps_blockLoad s _ loadRepeats
  | cpi | cpd => exact keeps_blockCompare s _ fun _ => false
  | cpir | cpdr => exact keeps_blockCompare s _ compareRepeats
  | ini | ind => exact keeps_blockIn s _ fun _ => false
  | inir | indr => exact keeps_blockIn s _ ioRepeats
  | outi | outd => exact keeps_blockOut s _ fun _ => false
  | otir | otdr => exact keeps_blockOut s _ ioRepeats
  | _ => exact keeps_exec_of_base rfl rfl

/-! ## The statements about instructions -/

/-- Settles O28: an instruction whose bytes are accessible completes, and a next state keeps the bytes outside its writes. -/
theorem everyInstructionCompletes : Obligations.EveryInstructionCompletes := by
  intro i s hwf hrow haccess
  obtain ⟨t, ht⟩ := exec_completes hwf hrow haccess
  have hkeeps := keeps_exec i s hrow
  rw [ht] at hkeeps
  cases hkeeps with
  | next hleast _ hpeek => exact ⟨t, ht, by omega, hpeek⟩

/-- Settles O29: every fault is one of an access the instruction names, and leaves a state midway. -/
theorem faultsComeFromAccesses : Obligations.FaultsComeFromAccesses := by
  intro i s hwf hrow
  have haccesses := accesses_exec s hwf hrow
  have hkeeps := keeps_exec i s hrow
  refine ⟨fun e he => ?_, fun e he => ?_⟩
  · rw [he] at haccesses
    cases haccesses
  · rw [he] at haccesses hkeeps
    cases hkeeps with
    | fault hleft =>
      obtain ⟨hframe, hpeek⟩ := hleft
      cases haccesses with
      | read left ha herr => exact ⟨_, by rw [left_toFault], .inl ⟨_, ha, herr⟩, hframe, hpeek⟩
      | write left ha herr => exact ⟨_, by rw [left_toFault], .inr ⟨_, ha, herr⟩, hframe, hpeek⟩

/-! ## The cycle count of a step -/

/-- The cycle counts of a step (R970). -/
def TakesCycles (t : State) : Prop := 4 ≤ t.cycles ∧ t.cycles ≤ 23

theorem Keeps.takesCycles {s : State} {ws : List Word} {res : Result} (h : Keeps s ws 23 res) : Ends res TakesCycles := by
  rintro t rfl
  cases h with
  | next hleast hmost => exact ⟨hleast, hmost⟩

theorem takesCycles_endStep {block : IntBlock} {air : Bool} {res : Result} (h : Ends res TakesCycles) :
    Ends (endStep block air res) TakesCycles :=
  ends_andThen h fun _ hu => ends_next hu

theorem takesCycles_takeInterrupt (s : State) (keep : Bool) {n : Nat} (target : State → (Word → Result) → Result)
    (hn : 4 ≤ n ∧ n ≤ 23) (htarget : ∀ u k post, (∀ v, Ends (k v) post) → Ends (target u k) post) :
    Ends (takeInterrupt s keep n target) TakesCycles :=
  ends_push16 (htarget _ _ _ fun _ => ends_next hn)

theorem takesCycles_acceptInt (v : Byte) (s : State) : Ends (acceptInt v s) TakesCycles := by
  unfold acceptInt
  split
  · split
    · exact takesCycles_takeInterrupt _ _ _ (by decide) fun _ _ _ hk => hk _
    · exact ends_refused _ _
  · exact takesCycles_takeInterrupt _ _ _ (by decide) fun _ _ _ hk => hk _
  · exact takesCycles_takeInterrupt _ _ _ (by decide) fun _ _ _ hk => ends_loadWord hk

/-- Settles O30: each kind of step sets its cycle count, an instruction its own. -/
theorem everyStepReturnsCycles : Obligations.EveryStepReturnsCycles := by
  intro s
  show ∀ t, step s = .next t → TakesCycles t
  unfold step
  split
  · exact takesCycles_endStep (takesCycles_takeInterrupt _ _ _ (by decide) fun _ _ _ hk => hk _)
  · exact takesCycles_endStep (takesCycles_acceptInt _ _)
  · exact takesCycles_endStep (ends_next ⟨le_refl 4, Nat.le_add_right 4 19⟩)
  · unfold runInstr
    split
    · rename_i i u hfetch
      exact takesCycles_endStep (keeps_exec i u (fetchInstr_eq_ok hfetch).1).takesCycles
    · exact ends_fault _ _
end Sys2Proof.Machine
end

section
/-! The host's reset and the state after it (70_reset_and_hazards.md R951, R952), and the fault kinds with their codes
(60_exceptions.md R900, R904, R905). -/

namespace Sys2Proof.Machine

theorem Fault.code_mem (e : Fault) : e.code ∈ [1, 2, 3] := by
  cases e with
  | addressOutOfRange _ _ _ => exact .head _
  | readOnlyViolation _ _ => exact .tail _ (.head _)
  | unknownOpcode _ _ => exact .tail _ (.tail _ (.head _))

/-- An attach that fails names the new component: it is no valid one, or a slot of its range is bound (R904). -/
theorem AddressSpace.attach_eq_error {bus : AddressSpace} {c : Component} {e : BusError}
    (h : bus.attach c = .error e) : (∃ slot, e = .duplicateBinding c slot) ∨ e = .badComponent c := by
  by_cases hvalid : c.valid = true
  · by_cases hbound : ∃ slot, c.bindsSlot slot = true ∧ bus.boundTo slot ≠ none
    · obtain ⟨slot, hattach, -⟩ := bus.attach_of_bound hvalid hbound
      exact .inl ⟨slot, Except.error.inj (h.symm.trans hattach)⟩
    · have hfree : ∀ slot, c.bindsSlot slot = true → bus.boundTo slot = none := by simpa using hbound
      exact absurd (h.symm.trans (bus.attach_of_free hvalid hfree)) nofun
  · exact .inr (Except.error.inj (h.symm.trans (bus.attach_of_not_valid hvalid)))

/-- Settles O60: the codes by definition, a fault of a step by its three constructors, and a failing attach by what attach checks. -/
theorem faultKindsHaveTheirCodes : Obligations.FaultKindsHaveTheirCodes :=
  ⟨⟨rfl, rfl, rfl, rfl, rfl⟩, fun _ _ _ => rfl, fun _ _ => rfl, fun _ _ => rfl, fun _ e _ => e.code_mem,
    fun _ _ _ h => (AddressSpace.attach_eq_error h).imp (fun ⟨slot, he⟩ => ⟨slot, he, he ▸ rfl⟩)
      fun he => ⟨he, he ▸ rfl⟩⟩

theorem AddressSpace.wf_fullRam : AddressSpace.fullRam.wf :=
  ⟨fun _ hc => List.mem_singleton.1 hc ▸ rfl, List.pairwise_singleton _ _⟩

/-- Settles O8: memory lists nothing, the bus is one valid component, and every control bit is clear. -/
theorem resetSatisfiesInvariants : Obligations.ResetSatisfiesInvariants :=
  ⟨⟨Memory.wf_reset, AddressSpace.wf_fullRam, nofun⟩, nofun, nofun, fun h => absurd rfl h, nofun⟩

/-- The registers a reset leaves unspecified, as a state holds them: the draws that keep them. -/
def State.ownDraws (s : State) : ResetDraws where
  a := s.a
  f := s.f
  b := s.b
  c := s.c
  d := s.d
  e := s.e
  h := s.h
  l := s.l
  altA := s.altA
  altF := s.altF
  altB := s.altB
  altC := s.altC
  altD := s.altD
  altE := s.altE
  altH := s.altH
  altL := s.altL
  ix := s.ix
  iy := s.iy
  sp := s.sp
  latch := s.latch

/-- Settles O10: the table is the update that `State.resetTo` is, and State.reset is the reset of itself that keeps its own
unspecified registers. -/
theorem resetSetsItsTable : Obligations.ResetSetsItsTable := by
  refine ⟨fun s w => ?_, State.reset.ownDraws, rfl⟩
  exact ⟨⟨rfl, rfl, rfl, rfl, rfl, rfl⟩, ⟨rfl, rfl, rfl, rfl⟩, ⟨rfl, rfl, rfl, rfl, rfl, rfl, rfl, rfl⟩,
    ⟨rfl, rfl, rfl, rfl, rfl, rfl, rfl, rfl⟩, ⟨rfl, rfl, rfl, rfl⟩, rfl, rfl, rfl⟩

end Sys2Proof.Machine
end
